-- ==== Sys2Proof/Word.lean ====
section
/-! DEFINITION. Word.lean: the words of the block (R10, R12, R14): binary32 encodings, stream indices, complex values. -/

namespace Sys2Proof

/-- A binary32 value, held as its 32-bit IEEE 754 encoding (R12). -/
abbrev F32 := BitVec 32

/-- A 64-bit stream index (R31: wraps modulo 2^64). -/
abbrev Idx := BitVec 64

/-- A complex value `C(re, im)`, a pair of binary32 values (R14). -/
structure Cplx where
  re : F32
  im : F32
  deriving DecidableEq, Repr, Inhabited

/-- `C(+0.0, +0.0)`. -/
def czero : Cplx := ⟨0#32, 0#32⟩

/-- Field `w[hi:lo]` of a word given as a natural number, as an unsigned integer (R10); `len = hi - lo + 1`. -/
def field (w lo len : Nat) : Nat := w / 2 ^ lo % 2 ^ len

end Sys2Proof
end

