-- ==== Sys2Proof/Config.lean ====
section
/-! DEFINITION. Config.lean: the implementation parameters of R8 and the free values: constants without a body, of which
nothing can be proved, so that a claim holds for every one of them. -/

namespace Sys2Proof

/-! Values R8 fixes. -/

/-- `NFILTS_MAX` (R8). -/
def Config.nfiltsMax : Nat := 256
/-- `DELAY_MAX` (R8). -/
def Config.delayMax : Nat := 32
/-- `SPS_MIN` = 2.0 (R8). -/
def Config.spsMin : F32 := 0x40000000#32
/-- `SPS_MAX` = 64.0 (R8). -/
def Config.spsMax : F32 := 0x42800000#32
/-- `TAPS_MAX` (R8). -/
def Config.tapsMax : Nat := 65537
/-- `SAT` = 65536.0 (R8). -/
def Config.sat : F32 := 0x47800000#32
/-- `SEG_BUF` (R8). -/
def Config.segBuf : Nat := 1440
/-- `GOLD_MAX` (R8). -/
def Config.goldMax : Nat := 262141

/-! OPEN parameters of R8: every legal value is a successor, so the free value is the depth less one. -/

/-- `DEPTH_IN - 1`, free (R8, D51). -/
opaque Config.depthInLessOne : Nat
/-- `DEPTH_LINK - 1`, free (R8, D51). -/
opaque Config.depthLinkLessOne : Nat
/-- `OUT_FRAMES - 1`, free (R8, D50). -/
opaque Config.outFramesLessOne : Nat

/-- `DEPTH_IN >= 1` (R8). -/
def Config.depthIn : Nat := Config.depthInLessOne + 1
/-- `DEPTH_LINK >= 1` (R8). -/
def Config.depthLink : Nat := Config.depthLinkLessOne + 1
/-- `OUT_FRAMES >= 1` (R8). -/
def Config.outFrames : Nat := Config.outFramesLessOne + 1

/-! Configuration-field functions of R16, before the properties R16 requires are imposed on them
(Machine/Operands.lean, Machine/Taps.lean). -/

/-- Free argument function, in turns (R16, I1). -/
opaque Config.argFree : Cplx → F32
/-- Free unit phasor function (R16, I2). -/
opaque Config.cisFree : F32 → Cplx
/-- Free prototype tap `i` for roll-off, delay, samples per symbol and branch count (R16, R310, I3). -/
opaque Config.protoFree : F32 → Nat → F32 → Nat → Nat → F32

/-! Values no rule states. -/

/-- Sign and payload bits of the NaN an invalid binary32 operation delivers: free, per operation and operands
(IEEE 754 fixes only that it is a quiet NaN; notes/assumptions/6.md). -/
opaque Config.nanBits : Nat → F32 → F32 → F32
/-- The floor of an infinity or a NaN: R13 defines `floor_i` for finite arguments only (notes/assumptions/7.md). -/
opaque Config.floorNonFinite : F32 → Int
/-- The `rdata` of the response to the host's `n`-th write: R142 gives every response one, and R200, R202 and R203 give a write
none (notes/assumptions/24.md). -/
opaque Config.writeRdata : Nat → BitVec 32
/-- Slots of a frame of the reserved MODCOD 29 to 31, which R503 leaves out (notes/assumptions/8.md). -/
opaque Config.reservedSlots : Nat → Bool → Nat

end Sys2Proof
end

