-- ==== Sys2Proof/Machine/Float.lean ====
section
/-! DEFINITION. Machine/Float.lean: the binary32 operations of R13: round to nearest, ties to even, subnormals kept, no
fused multiply-add. A finite value is `mant * 2^expo`, computed exactly and rounded once. -/

namespace Sys2Proof.Machine

/-! Fields of an encoding. -/

/-- The IEEE 754 sign, bit 31 (R102). -/
def fsign (a : F32) : Bool := decide (2 ^ 31 ≤ a.toNat)
/-- The biased exponent field. -/
def fexp (a : F32) : Nat := field a.toNat 23 8
/-- The fraction field. -/
def ffrac (a : F32) : Nat := field a.toNat 0 23
/-- The encoding without its sign. -/
def fmag (a : F32) : Nat := field a.toNat 0 31

/-- `isnan(a)` (R13). -/
def isnan (a : F32) : Bool := decide (0x7F800000 < fmag a)
/-- `a` is an infinity. -/
def isinf (a : F32) : Bool := decide (fmag a = 0x7F800000)
/-- `isfinite(a)` (R13). -/
def isfinite (a : F32) : Bool := decide (fmag a < 0x7F800000)

/-- The integer significand of a finite value. -/
def mant (a : F32) : Nat := if fexp a = 0 then ffrac a else ffrac a + 2 ^ 23
/-- The exponent of a finite value's significand: `|a| = mant a * 2 ^ expo a`. -/
def expo (a : F32) : Int := (max (fexp a) 1 : Nat) - 150

/-- The significand with its sign. -/
def smant (a : F32) : Int := if fsign a then -(mant a : Int) else (mant a : Int)

/-- `fneg(a)`: the sign flipped, exact (R13). -/
def fneg (a : F32) : F32 := a ^^^ 0x80000000#32
/-- `fabs(a)`: the sign cleared, exact (R13). -/
def fabs (a : F32) : F32 := a &&& 0x7FFFFFFF#32

/-- An encoding with a given sign and magnitude. -/
def withSign (neg : Bool) (bits : Nat) : F32 := BitVec.ofNat 32 (if neg then 2 ^ 31 + bits else bits)

/-- `m / 2^k` rounded to nearest, ties to even. -/
def rneShift (m k : Nat) : Nat :=
  let t := m / 2 ^ k
  let r := m % 2 ^ k
  if 2 ^ k < 2 * r ∨ (2 * r = 2 ^ k ∧ t % 2 = 1) then t + 1 else t

/-- The exponent of the last place of the binary32 value nearest `m * 2^e`: 24 significant bits, never below 2^-149. -/
def quantum (m : Nat) (e : Int) : Int := max (e + (Nat.log2 m : Int) - 23) (-149)

/-- The encoding, without sign, of `m * 2^e` rounded to nearest, ties to even; overflow goes to infinity. -/
def roundMag (m : Nat) (e : Int) : Nat :=
  if m = 0 then 0
  else
    let q := quantum m e
    let sig := if q ≤ e then m * 2 ^ (e - q).toNat else rneShift m (q - e).toNat
    min ((q + 149).toNat * 2 ^ 23 + sig) 0x7F800000

/-- `±m * 2^e` rounded to binary32. -/
def roundTo (neg : Bool) (m : Nat) (e : Int) : F32 := withSign neg (roundMag m e)

/-- A quiet NaN; sign and payload are free (notes/assumptions/6.md). -/
def qnan (op : Nat) (a b : F32) : F32 := 0x7FC00000#32 ||| Config.nanBits op a b

/-- An infinity. -/
def finf (neg : Bool) : F32 := withSign neg 0x7F800000

/-- Exact sum of two finite values as an integer multiple of `2 ^ min`. -/
def exactSum (a b : F32) : Int :=
  let e := min (expo a) (expo b)
  smant a * 2 ^ (expo a - e).toNat + smant b * 2 ^ (expo b - e).toNat

/-- IEEE addition; `op` names the operation for the free NaN. -/
def addAs (op : Nat) (a b : F32) : F32 :=
  if isnan a || isnan b then qnan op a b
  else if isinf a then (if isinf b && fsign a != fsign b then qnan op a b else a)
  else if isinf b then b
  else
    let x := exactSum a b
    if x = 0 then withSign (fsign a && fsign b) 0
    else roundTo (decide (x < 0)) x.natAbs (min (expo a) (expo b))

/-- `fadd(a, b)` (R13). -/
def fadd (a b : F32) : F32 := addAs 0 a b
/-- `fsub(a, b)` (R13). -/
def fsub (a b : F32) : F32 := addAs 1 a (fneg b)

/-- `fmul(a, b)` (R13). -/
def fmul (a b : F32) : F32 :=
  let s := fsign a != fsign b
  if isnan a || isnan b then qnan 2 a b
  else if isinf a || isinf b then (if fmag a = 0 ∨ fmag b = 0 then qnan 2 a b else finf s)
  else roundTo s (mant a * mant b) (expo a + expo b)

/-- `fdiv(a, b)` (R13). The quotient carries at least 26 bits and one bit that tells an inexact quotient. -/
def fdiv (a b : F32) : F32 :=
  let s := fsign a != fsign b
  if isnan a || isnan b then qnan 3 a b
  else if isinf a then (if isinf b then qnan 3 a b else finf s)
  else if isinf b then withSign s 0
  else if fmag b = 0 then (if fmag a = 0 then qnan 3 a b else finf s)
  else
    let n := mant a * 2 ^ 50
    let m := 2 * (n / mant b) + (if n % mant b = 0 then 0 else 1)
    roundTo s m (expo a - expo b - 51)

/-- The integer square root of `n`, bit by bit from bit `k - 1` down, starting from the root `r` found so far. -/
def isqrtFrom : Nat → Nat → Nat → Nat
  | 0, _, r => r
  | k + 1, n, r => isqrtFrom k n (if (r + 2 ^ k) * (r + 2 ^ k) ≤ n then r + 2 ^ k else r)

/-- `fsqrt(a)` (R13). The significand is scaled to an even exponent; the root carries at least 27 bits and one bit that
tells an inexact root. -/
def fsqrt (a : F32) : F32 :=
  if isnan a then qnan 4 a a
  else if fmag a = 0 then a
  else if fsign a then qnan 4 a a
  else if isinf a then a
  else
    let odd := (expo a % 2).toNat
    let n := mant a * 2 ^ (54 + odd)
    let r := isqrtFrom 40 n 0
    let m := 2 * r + (if r * r = n then 0 else 1)
    roundTo false m ((expo a - odd - 54) / 2 - 1)

/-- Order key of a value that is not a NaN: the magnitude with its sign, so that +0 and -0 are equal. -/
def fkey (a : F32) : Int := if fsign a then -(fmag a : Int) else (fmag a : Int)

/-- `flt(a, b)`: IEEE less-than, false on a NaN (R13). -/
def flt (a b : F32) : Bool := !isnan a && !isnan b && decide (fkey a < fkey b)
/-- `fle(a, b)` (R13). -/
def fle (a b : F32) : Bool := !isnan a && !isnan b && decide (fkey a ≤ fkey b)
/-- `feq(a, b)`: IEEE equality, +0 = -0, false on a NaN (R13). -/
def feq (a b : F32) : Bool := !isnan a && !isnan b && decide (fkey a = fkey b)

/-- `fmin(a, b)` (R13). -/
def fmin (a b : F32) : F32 := if flt b a then b else a
/-- `fmax(a, b)` (R13). -/
def fmax (a b : F32) : F32 := if flt a b then b else a
/-- `clampf(v, lo, hi)` (R13). -/
def clampf (v lo hi : F32) : F32 := fmin (fmax v lo) hi

/-- `floor_i(a)`: the mathematical floor of a finite value (R13); free otherwise. -/
def floorI (a : F32) : Int :=
  if isfinite a then
    if 0 ≤ expo a then smant a * 2 ^ (expo a).toNat else smant a / 2 ^ (-expo a).toNat
  else Config.floorNonFinite a

/-- The mathematical ceiling of a value (R221). -/
def ceilI (a : F32) : Int := -floorI (fneg a)

/-- `i2f(n)` (R13). -/
def i2f (n : Int) : F32 := roundTo (decide (n < 0)) n.natAbs 0

/-! Literals of the rules (R13: the binary32 value nearest the decimal). -/

/-- +0.0 -/
def f0 : F32 := 0x00000000#32
/-- 0.25 -/
def fQuarter : F32 := 0x3E800000#32
/-- 0.5 -/
def fHalf : F32 := 0x3F000000#32
/-- 1.0 -/
def f1 : F32 := 0x3F800000#32
/-- 2.0 -/
def f2 : F32 := 0x40000000#32
/-- 4.0 -/
def f4 : F32 := 0x40800000#32
/-- 12.5 -/
def f12h : F32 := 0x41480000#32
/-- 17.5 -/
def f17h : F32 := 0x418C0000#32
/-- 44.5 -/
def f44h : F32 := 0x42320000#32
/-- 64.0 -/
def f64 : F32 := 0x42800000#32
/-- 72.0 -/
def f72 : F32 := 0x42900000#32

end Sys2Proof.Machine
end

