-- ==== Sys2Proof/Machine/Operands.lean ====
section
/-! DEFINITION. Machine/Operands.lean: the operand forms of the datapath: complex values (R14), angles in turns (R15), the
configuration-field functions with the properties R16 requires, saturation (R17). -/

namespace Sys2Proof.Machine

/-- `cadd` (R14). -/
def cadd (a b : Cplx) : Cplx := ⟨fadd a.re b.re, fadd a.im b.im⟩
/-- `csub` (R14). -/
def csub (a b : Cplx) : Cplx := ⟨fsub a.re b.re, fsub a.im b.im⟩
/-- `cmul` (R14). -/
def cmul (a b : Cplx) : Cplx :=
  ⟨fsub (fmul a.re b.re) (fmul a.im b.im), fadd (fmul a.re b.im) (fmul a.im b.re)⟩
/-- `conj` (R14). -/
def conj (z : Cplx) : Cplx := ⟨z.re, fneg z.im⟩
/-- `cscale` (R14). -/
def cscale (r : F32) (z : Cplx) : Cplx := ⟨fmul r z.re, fmul r z.im⟩
/-- `cnorm2` (R14). -/
def cnorm2 (z : Cplx) : F32 := fadd (fmul z.re z.re) (fmul z.im z.im)
/-- `cabs` (R14). -/
def cabs (z : Cplx) : F32 := fsqrt (cnorm2 z)

/-- `rotq(z, q)`: exact multiplication by `j^q` (R14). -/
def rotq (z : Cplx) (q : Fin 4) : Cplx :=
  match q with
  | 0 => z
  | 1 => ⟨fneg z.im, z.re⟩
  | 2 => ⟨fneg z.re, fneg z.im⟩
  | 3 => ⟨z.im, fneg z.re⟩

/-- Componentwise IEEE equality. -/
def ceq (a b : Cplx) : Bool := feq a.re b.re && feq a.im b.im

/-- The left fold of R13 over a list of terms, from +0.0. -/
def fsum (l : List F32) : F32 := l.foldl fadd f0
/-- The complex left fold of R14, from `C(+0.0, +0.0)`. -/
def csum (l : List Cplx) : Cplx := l.foldl cadd czero

/-- `wrap_t(x)` (R15). -/
def wrapT (x : F32) : F32 := fsub x (i2f (floorI (fadd x fHalf)))

/-! `arg_t` and `cis_t` (R16): the free functions of Config wherever R16 leaves the value open, the required value where it
states one, and the required symmetry and range. The accuracy bounds ACC_ARG and ACC_CIS are not imposed
(notes/assumptions/4.md: safe, the model allows more functions than R16). -/

/-- The nearest thing R16 allows to a free angle: itself when it lies in [-0.5, 0.5], else 0. -/
def legalTurn (v : F32) : F32 := if fle 0xBF000000#32 v && fle v fHalf then v else f0

/-- `arg_t` on and above the real axis, off the axes' fixed values. -/
def argUpper (z : Cplx) : F32 :=
  if feq z.re f0 && flt f0 z.im then fQuarter
  else if feq z.re z.im && flt f0 z.re then 0x3E000000#32
  else legalTurn (Config.argFree z)

/-- `arg_t(z)` (R16). -/
def argT (z : Cplx) : F32 :=
  if feq z.re f0 && feq z.im f0 then f0
  else if feq z.im f0 && flt f0 z.re then f0
  else if feq z.im f0 && flt z.re f0 then 0xBF000000#32
  else if fsign z.im then fneg (argUpper (conj z))
  else argUpper z

/-- A component R16 allows: within ACC_CIS = 2^-22 of [-1, 1]. -/
def legalUnit (v : F32) : F32 := if fle (fabs v) 0x3F800002#32 then v else f0

/-- `cis_t` of a finite angle whose sign bit is clear. -/
def cisPos (a : F32) : Cplx :=
  if feq a fQuarter then ⟨f0, f1⟩
  else ⟨legalUnit (Config.cisFree a).re, legalUnit (Config.cisFree a).im⟩

/-- `cis_t(a)` (R16); free for an angle that is not finite. -/
def cisT (a : F32) : Cplx :=
  if !isfinite a then Config.cisFree a
  else if feq a f0 then ⟨f1, f0⟩
  else if feq (fabs a) fHalf then ⟨fneg f1, f0⟩
  else if fsign a then conj (cisPos (fneg a))
  else cisPos a

/-- `sat(v)` (R17). -/
def sat (v : F32) : F32 := if isnan v then f0 else clampf v (fneg Config.sat) Config.sat
/-- `csat(z)` (R17). -/
def csat (z : Cplx) : Cplx := ⟨sat z.re, sat z.im⟩
/-- Whether `csat` changes its argument, compared as bit patterns (R301). -/
def csatChanges (z : Cplx) : Bool := csat z != z

end Sys2Proof.Machine
end

