-- ==== Sys2Proof/Port.lean ====
section
/-! DEFINITION. Port.lean: what the agents of R110 present to the block: bus accesses (R142), stream beats (R170, R171),
unit operations (R41, R172) and the agents' own steps that no row of the opcode table names. Plain data. -/

namespace Sys2Proof

/-- `kind` of a bus access (R142). -/
inductive BusKind where
  | read
  | write
  deriving DecidableEq, Repr

/-- One item presented to the block for decoding. `bus` is the tuple of R142, `inBeat` the 64 data bits of R170,
`outTake` the output consumer's step of R205. `unit` selects one unit operation of the opcode table: bits [3:0] are the
unit id of R41 and bit [4] tells the second operation of unit 3 (HDR_DECODE) from its first (HDR_TEST); the operand words
of MIX and PILOT_SYMBOL follow in bits [87:8]. DESIGN CHOICE (notes/assumptions/2.md): R172 gives unit operations no bit
layout. -/
inductive Packet where
  | bus (kind : BusKind) (off : BitVec 12) (size : Nat) (wdata : BitVec 32)
  | inBeat (data : BitVec 64)
  | outTake
  | unit (w : BitVec 88)
  deriving DecidableEq, Repr

/-- The six unit groups of R110. -/
inductive Group where
  | agc
  | mf
  | str
  | pls
  | cpr
  | dsc
  deriving DecidableEq, Repr

/-- One agent's next step (R110). `present` offers a packet (host access, beat or unit operation); `cprStep` is the CPR
process step of R601, which the opcode table gives only through the operations it is made of; `drain` is the drain step of
a unit group; `powerOn` is the assertion of the reset input (R900). -/
inductive Action where
  | present (p : Packet)
  | cprStep
  | drain (g : Group)
  | powerOn
  deriving DecidableEq, Repr

end Sys2Proof
end

