-- ==== Sys2Proof/Syntax.lean ====
section
/-! DEFINITION. Syntax.lean: one constructor per row of spec/opcode_table.json. -/

namespace Sys2Proof

/-- The operations of the opcode table (R140 to R172). The commands carry no operand (`ARG` is 0 in every defined command);
`reserved` carries the rejected command word. The unit operations take their operand from State (an item of the input FIFO,
the window, the accumulators), but for MIX and PILOT_SYMBOL, whose rules R602 and R630 name their operands. -/
inductive Instr where
  /-- `NOP`, R220. -/
  | nop
  /-- `COMMIT`, R221. -/
  | commit
  /-- `START`, R222. -/
  | start
  /-- `STOP`, R223. -/
  | stop
  /-- `SOFT_RESET`, R224. -/
  | softReset
  /-- `FORCE_SEARCH`, R226. -/
  | forceSearch
  /-- `CLEAR_COUNTERS`, R227. -/
  | clearCounters
  /-- A command word no defined command has: a reserved opcode, or a nonzero `ARG` (R151). -/
  | reserved (w : BitVec 32)
  /-- `CSR_READ(off, size)`, R201. -/
  | csrRead (off : BitVec 12) (size : Nat)
  /-- `CSR_WRITE(off, size, wdata)`, R200. -/
  | csrWrite (off : BitVec 12) (size : Nat) (wdata : BitVec 32)
  /-- `IN_BEAT(I, Q)`, R204. -/
  | inBeat (i : F32) (q : F32)
  /-- `OUT_BEAT()`, R205. -/
  | outBeat
  /-- `AGC_STEP`, R300. -/
  | agcStep
  /-- `MF_STEP`, R314. -/
  | mfStep
  /-- `STR_STEP`, R402. -/
  | strStep
  /-- `HDR_TEST`, R509. -/
  | hdrTest
  /-- `PLS_STEP`, R521. -/
  | plsStep
  /-- `FREQ_UPDATE`, R616. -/
  | freqUpdate
  /-- `MIX(z, pos)`, R602. -/
  | mix (z : Cplx) (pos : BitVec 16)
  /-- `PHASE_REF`, the header phase reference of R620. -/
  | phaseRef
  /-- `PILOT_SYMBOL(j, o, i, s1)`, R630, with `blk = j - 1` (R506); `i = 1476 * blk + 1440 + o`. -/
  | pilotSymbol (blk : BitVec 8) (o : BitVec 8) (s1 : Cplx)
  /-- `DSC_STEP`, R711. -/
  | dscStep
  /-- `HDR_DECODE`, R510 to R512. -/
  | hdrDecode
  deriving DecidableEq, Repr

end Sys2Proof
end

