-- ==== Sys2Proof/WellFormed.lean ====
section
/-! DEFINITION. WellFormed.lean: which terms of Instr stand for an operation of the opcode table. -/

namespace Sys2Proof

/-- The command word names no defined command: opcode 0x07 to 0xFF, or `ARG` not 0 (R151). -/
def reservedWord (w : BitVec 32) : Bool :=
  decide (6 < field w.toNat 24 8) || decide (field w.toNat 0 24 ≠ 0)

/-- A write the bus admits to `CMD` (offset 0x008, 4 bytes) is a command, not a plain register write (R36, R210). -/
def isCommandWrite (off : BitVec 12) (size : Nat) : Bool := off == 0x008#12 && size == 4

/-- Well-formedness, one check per constructor. Bounds: frame positions are below the longest frame, 33282 symbols (R520);
pilot blocks `j = blk + 1` run to 22 and hold 36 symbols (R506). -/
def WellFormed : Instr → Bool
  | .nop => true
  | .commit => true
  | .start => true
  | .stop => true
  | .softReset => true
  | .forceSearch => true
  | .clearCounters => true
  | .reserved w => reservedWord w
  | .csrRead _ _ => true
  | .csrWrite off size _ => !isCommandWrite off size
  | .inBeat _ _ => true
  | .outBeat => true
  | .agcStep => true
  | .mfStep => true
  | .strStep => true
  | .hdrTest => true
  | .plsStep => true
  | .freqUpdate => true
  | .mix _ pos => decide (pos.toNat < 33282)
  | .phaseRef => true
  | .pilotSymbol blk o _ => decide (blk.toNat < 22) && decide (o.toNat < 36)
  | .dscStep => true
  | .hdrDecode => true

end Sys2Proof
end

