-- ==== Sys2Proof/Decode.lean ====
section
/-! DEFINITION. Decode.lean: the decoder, total on every packet, and after it the encoder (R140, R142, R150, R151, R170,
R172). -/

namespace Sys2Proof

/-- Why a packet is no operation: each is raised by `decode` alone, and refusing is safe (no rule gives the packet an
effect). -/
inductive Reject where
  /-- Unit id 10 to 15: R41 numbers the units 0 to 9. -/
  | unknownUnit (code : Nat)
  /-- MIX at a position no frame has (R520: at most 33282 symbols). -/
  | badPosition (pos : Nat)
  /-- PILOT_SYMBOL outside the pilot blocks of R506 (22 blocks of 36 symbols at most). -/
  | badPilot (blk : Nat) (o : Nat)
  deriving DecidableEq, Repr

/-- The command a word written to `CMD` stands for (R150): `OPCODE = w[31:24]`, `ARG = w[23:0]` must be 0. -/
def decodeCmd (w : BitVec 32) : Instr :=
  if field w.toNat 0 24 ≠ 0 then .reserved w
  else
    match field w.toNat 24 8 with
    | 0x00 => .nop
    | 0x01 => .commit
    | 0x02 => .start
    | 0x03 => .stop
    | 0x04 => .softReset
    | 0x05 => .forceSearch
    | 0x06 => .clearCounters
    | _ => .reserved w

/-- The complex operand of a unit packet: bits [39:8] real part, [71:40] imaginary part. -/
def unitCplx (w : BitVec 88) : Cplx := ⟨w.extractLsb' 8 32, w.extractLsb' 40 32⟩

/-- The unit operation of a unit packet, by unit id (R41) and, for unit 3, bit 4. Bits [7:5] lie outside the opcode table's
mask 0xF and are not read; bit 4 is read for unit 3 only. -/
def decodeUnit (w : BitVec 88) : Except Reject Instr :=
  match field w.toNat 0 4 with
  | 0 => .ok .agcStep
  | 1 => .ok .mfStep
  | 2 => .ok .strStep
  | 3 => if field w.toNat 4 1 = 0 then .ok .hdrTest else .ok .hdrDecode
  | 4 => .ok .plsStep
  | 5 => .ok .freqUpdate
  | 6 =>
    if field w.toNat 72 16 < 33282 then .ok (.mix (unitCplx w) (w.extractLsb' 72 16))
    else .error (.badPosition (field w.toNat 72 16))
  | 7 => .ok .phaseRef
  | 8 =>
    if field w.toNat 72 8 < 22 ∧ field w.toNat 80 8 < 36 then
      .ok (.pilotSymbol (w.extractLsb' 72 8) (w.extractLsb' 80 8) (unitCplx w))
    else .error (.badPilot (field w.toNat 72 8) (field w.toNat 80 8))
  | 9 => .ok .dscStep
  | n => .error (.unknownUnit n)

/-- The decoder. An admitted write to `CMD` is a command (R36); every other bus access is CSR_READ or CSR_WRITE, whatever
its offset and size (R200 to R203 give every one an outcome). -/
def decode : Packet → Except Reject Instr
  | .bus .read off size _ => .ok (.csrRead off size)
  | .bus .write off size wdata =>
    if isCommandWrite off size then .ok (decodeCmd wdata) else .ok (.csrWrite off size wdata)
  | .inBeat data => .ok (.inBeat (data.extractLsb' 0 32) (data.extractLsb' 32 32))
  | .outTake => .ok .outBeat
  | .unit w => decodeUnit w

/-! The encoder, from the same tables. -/

/-- `csrw 0x008, w` (R176). -/
def encodeCmd (w : BitVec 32) : Packet := .bus .write 0x008#12 4 w

/-- A unit packet with unit id `code`, second-operation bit `sel`, and operand words. -/
def encodeUnit (code : BitVec 4) (sel : BitVec 1) (z : Cplx) (hi : BitVec 16) : Packet :=
  .unit (hi ++ z.im ++ z.re ++ (0#3 ++ sel ++ code))

/-- The packet of each operation (R150, R142, R170, R41). -/
def encode : Instr → Packet
  | .nop => encodeCmd 0x00000000#32
  | .commit => encodeCmd 0x01000000#32
  | .start => encodeCmd 0x02000000#32
  | .stop => encodeCmd 0x03000000#32
  | .softReset => encodeCmd 0x04000000#32
  | .forceSearch => encodeCmd 0x05000000#32
  | .clearCounters => encodeCmd 0x06000000#32
  | .reserved w => encodeCmd w
  | .csrRead off size => .bus .read off size 0#32
  | .csrWrite off size wdata => .bus .write off size wdata
  | .inBeat i q => .inBeat (q ++ i)
  | .outBeat => .outTake
  | .agcStep => encodeUnit 0#4 0#1 czero 0#16
  | .mfStep => encodeUnit 1#4 0#1 czero 0#16
  | .strStep => encodeUnit 2#4 0#1 czero 0#16
  | .hdrTest => encodeUnit 3#4 0#1 czero 0#16
  | .plsStep => encodeUnit 4#4 0#1 czero 0#16
  | .freqUpdate => encodeUnit 5#4 0#1 czero 0#16
  | .mix z pos => encodeUnit 6#4 0#1 z pos
  | .phaseRef => encodeUnit 7#4 0#1 czero 0#16
  | .pilotSymbol blk o s1 => encodeUnit 8#4 0#1 s1 (o ++ blk)
  | .dscStep => encodeUnit 9#4 0#1 czero 0#16
  | .hdrDecode => encodeUnit 3#4 1#1 czero 0#16

/-- The packet of a row of the opcode table whose bits are `w`: 8 bits are a unit operation (rows of format UNIT), 32 bits
a command word written to `CMD` (rows of format CMD), 64 bits an input beat (R170), 88 bits a whole unit packet. -/
def tablePacket (nbits w : Nat) : Option Packet :=
  if nbits ≤ 8 then some (.unit (BitVec.ofNat 88 (w % 256)))
  else if nbits = 32 then some (encodeCmd (BitVec.ofNat 32 w))
  else if nbits = 64 then some (.inBeat (BitVec.ofNat 64 w))
  else if nbits = 88 then some (.unit (BitVec.ofNat 88 w))
  else none

/-- What the decoder reads from a row's bits (fixed name of the host). -/
def decodeTableWord (nbits w : Nat) : Option Instr :=
  match tablePacket nbits w with
  | none => none
  | some p =>
    match decode p with
    | .ok i => some i
    | .error _ => none

end Sys2Proof
end

