-- ==== Sys2Proof/Machine/State.lean ====
section
/-! DEFINITION. Machine/State.lean: every piece of state the spec gives the block (10_state.md), as plain data, and the
state right after power-on reset (R901). The block has no memory a program addresses (R100): its address space is the CSR
window, whose registers are fields here. -/

namespace Sys2Proof.Machine

/-! Configuration. -/

/-- The configuration registers of R43: the shadow copy, and the copy in `ACT` (R34, R60). -/
structure Cfg where
  agcGain : F32
  agcRate : F32
  agcRef : F32
  agcGmin : F32
  agcGmax : F32
  rrcRolloff : F32
  rrcDelay : BitVec 8
  rrcNfilts : BitVec 10
  sps : F32
  symRate : F32
  strDamping : F32
  strLoopBw : F32
  strTedGain : F32
  strMaxDev : F32
  modcod : BitVec 5
  frameSize : BitVec 1
  goldCode : BitVec 18
  plFreqEstPeriod : BitVec 16
  syncCtrl : BitVec 2
  corrThresh : F32
  lockLossN : BitVec 8
  plscMmN : BitVec 8
  plscMaxDist : BitVec 6
  pilotThresh : F32
  deriving DecidableEq, Repr

/-- The reset values of R43. -/
def cfgReset : Cfg where
  agcGain := 0x3F800000#32
  agcRate := 0x39800000#32
  agcRef := 0x3F800000#32
  agcGmin := 0x37800000#32
  agcGmax := 0x47800000#32
  rrcRolloff := 0x3E4CCCCD#32
  rrcDelay := 5#8
  rrcNfilts := 32#10
  sps := 0x40000000#32
  symRate := 0x49742400#32
  strDamping := 0x3F800000#32
  strLoopBw := 0x3C000000#32
  strTedGain := 0x3F800000#32
  strMaxDev := 0x3F000000#32
  modcod := 1#5
  frameSize := 0#1
  goldCode := 0#18
  plFreqEstPeriod := 8#16
  syncCtrl := 0#2
  corrThresh := 0x3F000000#32
  lockLossN := 3#8
  plscMmN := 3#8
  plscMaxDist := 8#6
  pilotThresh := 0x3E800000#32

/-- The active configuration `ACT` with its derived coefficient state (R60). -/
structure Act where
  cfg : Cfg
  /-- prototype length -/
  l : Nat
  /-- half span in input samples -/
  kh : Nat
  /-- branch count -/
  n : Nat
  /-- normalised prototype coefficients `c[0..L-1]` -/
  c : List F32
  kp : F32
  ki : F32
  deriving DecidableEq, Repr

/-- `ACT` after power-on (R60). -/
def actReset : Act := ⟨cfgReset, 0, 0, 0, [], 0#32, 0#32⟩

/-! Control, events, counters and live registers. -/

/-- Control and event registers: R37 (`RUNNING`, `CFG_VALID`), R38, R39, R40, R41, R49 (`TAP_INDEX`). -/
structure Ctl where
  running : Bool
  cfgValid : Bool
  cfgErr : BitVec 17
  cmdErrOpcode : BitVec 8
  cmdErrReason : BitVec 2
  irqStatus : BitVec 10
  irqEnable : BitVec 10
  numEvt : BitVec 10
  tapIndex : BitVec 17
  deriving DecidableEq, Repr

/-- The 32-bit event counters of R42. -/
structure Counters where
  frameCnt : BitVec 32
  dropCnt : BitVec 32
  acqCnt : BitVec 32
  lossCnt : BitVec 32
  pilotFailCnt : BitVec 32
  deriving DecidableEq, Repr

/-- The `_HI` holding registers (R42, R45, R68, R104). -/
structure Holds where
  sampleHi : BitVec 32
  symbolHi : BitVec 32
  hdrSymHi : BitVec 32
  hdrSmpHi : BitVec 32
  deriving DecidableEq, Repr

/-- The live status registers of R45, R46 and R47, each a register of its own that the rule updating it names. -/
structure Live where
  lastHdrSym : Idx
  lastHdrSmp : Idx
  lastPls : BitVec 7
  lastDist : BitVec 7
  frameLen : BitVec 16
  freqEst : F32
  freqEstHz : F32
  agcGainCur : F32
  strPeriodCur : F32
  strMuCur : F32
  strErrCur : F32
  corrLast : F32
  phaseLast : F32
  deriving DecidableEq, Repr

/-! Items of the internal FIFOs (R172). -/

/-- `L12` item `(z, smp)`. -/
structure Item12 where
  z : Cplx
  smp : Idx
  deriving DecidableEq, Repr

/-- `L23` item `(Y[0..N-1], smp)`. -/
structure Item23 where
  y : List Cplx
  smp : Idx
  deriving DecidableEq, Repr

/-- `L34` item `(y, smp)`. -/
structure Item34 where
  y : Cplx
  smp : Idx
  deriving DecidableEq, Repr

/-- `L45` item: the tagged symbol of R533. -/
structure Item45 where
  z : Cplx
  smp : Idx
  ep : BitVec 32
  fid : BitVec 32
  pls : BitVec 7
  pos : Nat
  deriving DecidableEq, Repr

/-- `L56` item (R645). -/
inductive Item56 where
  /-- a phase-corrected data symbol -/
  | data (z : Cplx) (pls : BitVec 7) (fid : BitVec 32) (didx : Nat) (i : Nat)
  /-- frame `fid` will not be completed -/
  | abort (fid : BitVec 32)
  deriving DecidableEq, Repr

/-! Unit state. -/

/-- `agc_normalizer` (R61, R62) with its staging queue (R110). -/
structure Agc where
  g : F32
  sampleIdx : Idx
  outq : List Item12
  deriving DecidableEq, Repr

/-- `matched_filter_rrc` (R63) with its staging queue. -/
structure Mf where
  /-- what the delay line holds, newest first (R63, R902); `delayLine` gives the elements in use -/
  x : List Cplx
  outq : List Item23
  deriving DecidableEq, Repr

/-- `symbol_timing_recovery_interpolator` (R64) with its staging queue. -/
structure Str where
  cS : Nat
  muS : F32
  cM : Nat
  muM : F32
  midPending : Bool
  haveMid : Bool
  havePrev : Bool
  yPrev : Cplx
  yMid : Cplx
  vi : F32
  delta : F32
  eLast : F32
  outq : List Item34
  deriving DecidableEq, Repr

/-- Synchroniser states (R37, R65). -/
inductive SyncState where
  | searching
  | headerFound
  | locked
  deriving DecidableEq, Repr

/-- The result `dec` of a header decode (R512). -/
structure Dec where
  pls : BitVec 7
  dist : Nat
  ok : Bool
  deriving DecidableEq, Repr

/-- The detection held across `HEADER_FOUND` (R523, R524). -/
structure Pend where
  w : List Cplx
  wsmp : List Idx
  sym0 : Idx
  dec : Dec
  deriving DecidableEq, Repr

/-- The synchroniser `PLS` (R65, R70) with its staging queue. `hit` and `dec` are the model's own: the results of the most
recent HDR_TEST and HDR_DECODE, which the rules hand to the operation that asked for them (notes/assumptions/3.md). -/
structure Pls where
  w : List Cplx
  wsmp : List Idx
  fill : Nat
  state : SyncState
  cnt : Nat
  curPls : BitVec 7
  curLen : Nat
  miss : BitVec 8
  mm : BitVec 8
  epoch : BitVec 32
  pend : Option Pend
  force : Bool
  cforce : Bool
  cforceEp : BitVec 32
  fwd : Bool
  fid : BitVec 32
  symbolIdx : Idx
  hit : Bool
  dec : Dec
  outq : List Item45
  deriving DecidableEq, Repr

/-- The frame context `fr` of carrier recovery (R610). -/
structure FrameCtx where
  valid : Bool
  fid : BitVec 32
  ep : BitVec 32
  pls : BitVec 7
  len : Nat
  p : Nat
  next : Nat
  drop : Bool
  deriving DecidableEq, Repr

/-- A data symbol of `CPR.hold` (R621). -/
structure Held where
  s1 : Cplx
  pos : Nat
  didx : Nat
  deriving DecidableEq, Repr

/-- Carrier recovery `CPR` (R66) with its staging queue. `s1` is the model's own: the output of the most recent MIX
(notes/assumptions/3.md). -/
structure Cpr where
  psi : F32
  fAct : F32
  fPend : F32
  fPendV : Bool
  dAcc : Cplx
  nEst : BitVec 16
  /-- `CPR.freq_valid`, which `STATUS.FREQ_VALID` shows (R37, R66) -/
  freqValid : Bool
  fr : FrameCtx
  hraw : List Cplx
  hder : List Cplx
  refT : F32
  refTh : F32
  pacc : Cplx
  pen : F32
  hold : List Held
  failV : Bool
  failEpoch : BitVec 32
  s1 : Cplx
  outq : List Item56
  deriving DecidableEq, Repr

/-- The frame being assembled, `DSC.cur` (R67, R711). -/
structure CurFrame where
  valid : Bool
  fid : BitVec 32
  pls : BitVec 7
  count : Nat
  n : Nat
  sym : List Cplx
  done : Bool
  deriving DecidableEq, Repr

/-- A complete frame of the output buffer (R722). -/
structure Frame where
  pls : BitVec 7
  count : Nat
  sym : List Cplx
  deriving DecidableEq, Repr

/-- Descrambler and emitter `DSC` (R67). -/
structure Dsc where
  cur : CurFrame
  outbuf : List Frame
  drain : Nat
  deriving DecidableEq, Repr

/-- The inter-unit FIFOs of R71, oldest item first. `OUTBUF` is `Dsc.outbuf`. -/
structure Fifos where
  fIn : List Cplx
  l12 : List Item12
  l23 : List Item23
  l34 : List Item34
  l45 : List Item45
  l56 : List Item56
  deriving DecidableEq, Repr

/-! What the ports last answered: the model's own (notes/assumptions/3.md). -/

/-- The response `(resp, rdata)` of a bus access (R142); `okay` is `resp = OKAY`. -/
structure BusResp where
  okay : Bool
  rdata : BitVec 32
  deriving DecidableEq, Repr

/-- An output beat (R171): 64 data bits and the 9-bit sideband `USER`. -/
structure OutBeat where
  data : BitVec 64
  user : BitVec 9
  deriving DecidableEq, Repr

/-- The latest answers of the three ports: the bus response, whether the last offered input beat was taken, and the beat
the output consumer's last step took (none: no beat was offered). `writes` counts the writes answered, to draw a free `rdata`
for each (notes/assumptions/24.md). -/
structure Port where
  bus : BusResp
  writes : Nat
  inAck : Bool
  out : Option OutBeat
  deriving DecidableEq, Repr

/-- The whole machine. `agenda` is the model's own: which agents act next, in order (R110: the schedule is free; R113;
notes/assumptions/1.md). -/
structure State where
  shadow : Cfg
  act : Act
  ctl : Ctl
  cnt : Counters
  holds : Holds
  live : Live
  agc : Agc
  mf : Mf
  str : Str
  pls : Pls
  cpr : Cpr
  dsc : Dsc
  fifo : Fifos
  port : Port
  agenda : List Action
  deriving DecidableEq, Repr

/-- The machine has no fault: no event stops the block (R800, R806, R816). No step raises one. -/
inductive Fault where
  deriving DecidableEq, Repr

/-- Why a step is refused. -/
inductive Refusal where
  /-- Raised by `exec` for an instruction that has no meaning yet; safe. -/
  | notModelled (mnemonic : String)
  /-- Raised by `step` when the packet of the next action decodes to no operation (Decode.lean); safe: no rule gives such a
  packet an effect. -/
  | undecodable (why : Reject)
  deriving DecidableEq, Repr

/-! Reset values (R901 and the tables of 10_state.md). -/

/-- No decode yet. -/
def decNone : Dec := ⟨0#7, 0, false⟩

/-- `fr` empty: `fr.valid = 0` (R66). -/
def frEmpty : FrameCtx := ⟨false, 0#32, 0#32, 0#7, 0, 0, 0, false⟩

/-- `DSC.cur` empty: `valid = 0` and `done = 0` (R67). -/
def curEmpty : CurFrame := ⟨false, 0#32, 0#7, 0, 0, [], false⟩

/-- `AGC` after a reset (R61, R62). -/
def agcReset (a : Act) : Agc := ⟨a.cfg.agcGain, 0#64, []⟩

/-- `MF` after a reset: `2*Kh + 1` zeros, none when `L = 0` (R902, R316). How many of them are in use is `delayLine`'s (R63). -/
def mfReset (a : Act) : Mf := ⟨if a.l = 0 then [] else List.replicate (2 * a.kh + 1) czero, []⟩

/-- `STR` after a reset (R64). -/
def strReset (a : Act) : Str where
  cS := 0
  muS := 0#32
  cM := 0
  muM := 0#32
  midPending := false
  haveMid := false
  havePrev := false
  yPrev := czero
  yMid := czero
  vi := 0#32
  delta := a.cfg.sps
  eLast := 0#32
  outq := []

/-- `PLS` after a reset (R65, R70). -/
def plsReset : Pls where
  w := List.replicate 90 czero
  wsmp := List.replicate 90 0#64
  fill := 0
  state := .searching
  cnt := 0
  curPls := 0#7
  curLen := 0
  miss := 0#8
  mm := 0#8
  epoch := 0#32
  pend := none
  force := false
  cforce := false
  cforceEp := 0#32
  fwd := false
  fid := 0#32
  symbolIdx := 0#64
  hit := false
  dec := decNone
  outq := []

/-- `CPR` after a reset (R66). -/
def cprReset : Cpr where
  psi := 0#32
  fAct := 0#32
  fPend := 0#32
  fPendV := false
  dAcc := czero
  nEst := 0#16
  freqValid := false
  fr := frEmpty
  hraw := List.replicate 90 czero
  hder := List.replicate 90 czero
  refT := 0#32
  refTh := 0#32
  pacc := czero
  pen := 0#32
  hold := []
  failV := false
  failEpoch := 0#32
  s1 := czero
  outq := []

/-- The FIFOs after a reset (R71). -/
def fifosReset : Fifos := ⟨[], [], [], [], [], []⟩

/-- The live registers after a reset (R45 to R47, R902). -/
def liveReset (a : Act) : Live where
  lastHdrSym := 0#64
  lastHdrSmp := 0#64
  lastPls := 0#7
  lastDist := 0#7
  frameLen := 0#16
  freqEst := 0#32
  freqEstHz := 0#32
  agcGainCur := a.cfg.agcGain
  strPeriodCur := a.cfg.sps
  strMuCur := 0#32
  strErrCur := 0#32
  corrLast := 0#32
  phaseLast := 0#32

/-- The machine right after power-on reset (R901), with nothing scheduled and the ports idle. -/
def State.reset : State where
  shadow := cfgReset
  act := actReset
  ctl := ⟨false, false, 0#17, 0#8, 0#2, 0#10, 0#10, 0#10, 0#17⟩
  cnt := ⟨0#32, 0#32, 0#32, 0#32, 0#32⟩
  holds := ⟨0#32, 0#32, 0#32, 0#32⟩
  live := liveReset actReset
  agc := agcReset actReset
  mf := mfReset actReset
  str := strReset actReset
  pls := plsReset
  cpr := cprReset
  dsc := ⟨curEmpty, [], 0⟩
  fifo := fifosReset
  port := ⟨⟨true, 0#32⟩, 0, false, none⟩
  agenda := []

end Sys2Proof.Machine
end

