-- ==== Sys2Proof/Machine/Flags.lean ====
section
/-! DEFINITION. Machine/Flags.lean: the event bits and how they are set (R40, R41, R801 to R805), the `IRQ` line (R802) and
the fields of `STATUS` (R37, R50). The block's flags are these; no operation has arithmetic flags. -/

namespace Sys2Proof.Machine

/-- The events of R801. -/
inductive Event where
  | lock
  | lockLost
  | frameOut
  | freqUpd
  | cfgFail
  | numeric
  | cmdErr
  | pilotFail
  | frameDrop
  | busErr
  deriving DecidableEq, Repr

/-- The event's bit in `IRQ_STATUS` and `IRQ_ENABLE`, as a mask (R40, R801). -/
def eventMask : Event → BitVec 10
  | .lock => 0x001#10
  | .lockLost => 0x002#10
  | .frameOut => 0x004#10
  | .freqUpd => 0x008#10
  | .cfgFail => 0x010#10
  | .numeric => 0x020#10
  | .cmdErr => 0x040#10
  | .pilotFail => 0x080#10
  | .frameDrop => 0x100#10
  | .busErr => 0x200#10

/-- `irq_set(b)` (R802): the bit is recorded whatever `IRQ_ENABLE` holds. -/
def irqSet (e : Event) (s : State) : State :=
  { s with ctl := { s.ctl with irqStatus := s.ctl.irqStatus ||| eventMask e } }

/-- The units that can saturate a value (R803): AGC 0, MF 1, STR 2. -/
inductive NumUnit where
  | agc
  | mf
  | str
  deriving DecidableEq, Repr

/-- The unit's bit in `NUM_EVT` (R41). -/
def numMask : NumUnit → BitVec 10
  | .agc => 0x001#10
  | .mf => 0x002#10
  | .str => 0x004#10

/-- `raise NUM_EVT(u)` (R803): `NUM_EVT[u] <- 1; irq_set(NUMERIC)`. -/
def raiseNum (u : NumUnit) (s : State) : State :=
  irqSet .numeric { s with ctl := { s.ctl with numEvt := s.ctl.numEvt ||| numMask u } }

/-- `raise NUM_EVT(u)` when a value changed (R17). -/
def raiseNumIf (changed : Bool) (u : NumUnit) (s : State) : State := if changed then raiseNum u s else s

/-- The interrupt output `IRQ` (R802): level-sensitive, a function of the two registers. -/
def irqLine (s : State) : Bool := s.ctl.irqStatus &&& s.ctl.irqEnable != 0#10

/-- `STATUS.IN_READY` (R37, R50). -/
def inReady (s : State) : Bool := s.ctl.running && decide (s.fifo.fIn.length < Config.depthIn)
/-- `STATUS.OUT_VALID` (R37, R722). -/
def outValid (s : State) : Bool := !s.dsc.outbuf.isEmpty
/-- `STATUS.STR_DEGRADED` (R50). -/
def strDegraded (s : State) : Bool := s.ctl.cfgValid && feq s.act.cfg.strLoopBw f0

/-- `STATUS.SYNC_STATE` (R37). -/
def syncCode : SyncState → BitVec 2
  | .searching => 0#2
  | .headerFound => 1#2
  | .locked => 2#2

/-- One bit as a word. -/
def bit1 (b : Bool) : BitVec 1 := if b then 1#1 else 0#1

/-- The value of `STATUS` (R37). -/
def statusWord (s : State) : BitVec 32 :=
  0#24 ++ bit1 (outValid s) ++ bit1 (inReady s) ++ bit1 s.cpr.freqValid ++ bit1 (strDegraded s)
    ++ bit1 s.ctl.cfgValid ++ bit1 s.ctl.running ++ syncCode s.pls.state

end Sys2Proof.Machine
end

