-- ==== Sys2Proof/Machine/Ops.lean ====
section
/-! DEFINITION. Machine/Ops.lean: the operations the meanings share: taking an event (the block's only exceptions, R800),
counting, resetting the units (R902), the enabling conditions and the drain steps of R110. -/

namespace Sys2Proof.Machine

/-! Taking an event. The block has no vector, saves no state and changes no mode (R800): an event sets its bit of
`IRQ_STATUS` and what R801's table says beside it, and the machine goes on. There is no return. -/

/-- A rejected command (R210, R810): `CMD_ERR_INFO <- {REASON, OPCODE}` and `CMD_ERR`; nothing else changes. -/
def rejectCommand (reason : BitVec 2) (op : BitVec 8) (s : State) : State :=
  irqSet .cmdErr { s with ctl := { s.ctl with cmdErrReason := reason, cmdErrOpcode := op } }

/-- `DROP()` (R534): `DROP_CNT <- DROP_CNT + 1; irq_set(FRAME_DROP)`. -/
def dropFrame (s : State) : State :=
  irqSet .frameDrop { s with cnt := { s.cnt with dropCnt := s.cnt.dropCnt + 1#32 } }

/-! Resets. -/

/-- `RESET_UNITS()` (R902), reading the current `ACT`. The output buffer, the configuration, the event registers and the
32-bit counters stay. -/
def resetUnits (s : State) : State :=
  { s with
    holds := ⟨0#32, 0#32, 0#32, 0#32⟩
    live := liveReset s.act
    agc := agcReset s.act
    mf := mfReset s.act
    str := strReset s.act
    pls := plsReset
    cpr := cprReset
    dsc := { s.dsc with cur := curEmpty }
    fifo := fifosReset }

/-- Power-on reset (R900, R901): everything at its reset value; what the agents do next is not the block's. -/
def powerOnReset (s : State) : State := { State.reset with agenda := s.agenda }

/-- The delay line `MF.X[0..2*Kh]` that R63 describes: what R902 and MF_STEP left in it, and no elements while `CFG_VALID` = 0
(notes/assumptions/14.md). -/
def delayLine (s : State) : List Cplx := if s.ctl.cfgValid then s.mf.x else []

/-! Enabling conditions of R110. A unit's process step needs `RUNNING`, an item, and an empty staging queue. -/

/-- AGC process step enabled (R110). -/
def agcEnabled (s : State) : Bool := s.ctl.running && !s.fifo.fIn.isEmpty && s.agc.outq.isEmpty
/-- MF process step enabled (R110). -/
def mfEnabled (s : State) : Bool := s.ctl.running && !s.fifo.l12.isEmpty && s.mf.outq.isEmpty
/-- STR process step enabled (R110). -/
def strEnabled (s : State) : Bool := s.ctl.running && !s.fifo.l23.isEmpty && s.str.outq.isEmpty
/-- A PLS operation may run: `RUNNING` and an empty staging queue (R110, R223). -/
def plsReady (s : State) : Bool := s.ctl.running && s.pls.outq.isEmpty
/-- PLS process step enabled (R110). -/
def plsEnabled (s : State) : Bool := plsReady s && !s.fifo.l34.isEmpty
/-- A CPR operation may run: `RUNNING` and an empty staging queue (R110, R223). -/
def cprReady (s : State) : Bool := s.ctl.running && s.cpr.outq.isEmpty
/-- CPR process step enabled (R110). -/
def cprEnabled (s : State) : Bool := cprReady s && !s.fifo.l45.isEmpty
/-- DSC process step enabled (R110, R711). -/
def dscEnabled (s : State) : Bool := s.ctl.running && !s.fifo.l56.isEmpty && !s.dsc.cur.done

/-! Drain steps (R110): the oldest staged item moves to the output FIFO, when `RUNNING` and the FIFO is not full. A drain
step that is not enabled is not taken, and nothing changes. -/

/-- Whether a FIFO of `len` items is below the link depth. -/
def linkFree (len : Nat) : Bool := decide (len < Config.depthLink)

/-- AGC drain step, to `L12`. -/
def drainAgc (s : State) : State :=
  match s.agc.outq with
  | [] => s
  | it :: rest =>
    if s.ctl.running && linkFree s.fifo.l12.length then
      { s with agc := { s.agc with outq := rest }, fifo := { s.fifo with l12 := s.fifo.l12 ++ [it] } }
    else s

/-- MF drain step, to `L23`. -/
def drainMf (s : State) : State :=
  match s.mf.outq with
  | [] => s
  | it :: rest =>
    if s.ctl.running && linkFree s.fifo.l23.length then
      { s with mf := { s.mf with outq := rest }, fifo := { s.fifo with l23 := s.fifo.l23 ++ [it] } }
    else s

/-- STR drain step, to `L34`. -/
def drainStr (s : State) : State :=
  match s.str.outq with
  | [] => s
  | it :: rest =>
    if s.ctl.running && linkFree s.fifo.l34.length then
      { s with str := { s.str with outq := rest }, fifo := { s.fifo with l34 := s.fifo.l34 ++ [it] } }
    else s

/-- PLS drain step, to `L45`. -/
def drainPls (s : State) : State :=
  match s.pls.outq with
  | [] => s
  | it :: rest =>
    if s.ctl.running && linkFree s.fifo.l45.length then
      { s with pls := { s.pls with outq := rest }, fifo := { s.fifo with l45 := s.fifo.l45 ++ [it] } }
    else s

/-- CPR drain step, to `L56`. -/
def drainCpr (s : State) : State :=
  match s.cpr.outq with
  | [] => s
  | it :: rest =>
    if s.ctl.running && linkFree s.fifo.l56.length then
      { s with cpr := { s.cpr with outq := rest }, fifo := { s.fifo with l56 := s.fifo.l56 ++ [it] } }
    else s

/-- DSC drain step (R722): a completed frame enters the output buffer. -/
def drainDsc (s : State) : State :=
  if s.ctl.running && s.dsc.cur.done && decide (s.dsc.outbuf.length < Config.outFrames) then
    irqSet .frameOut
      { s with
        dsc := { s.dsc with
          outbuf := s.dsc.outbuf ++ [⟨s.dsc.cur.pls, s.dsc.cur.count, s.dsc.cur.sym⟩]
          cur := curEmpty }
        cnt := { s.cnt with frameCnt := s.cnt.frameCnt + 1#32 } }
  else s

/-- The drain step of a unit group. -/
def drainStep (g : Group) (s : State) : State :=
  match g with
  | .agc => drainAgc s
  | .mf => drainMf s
  | .str => drainStr s
  | .pls => drainPls s
  | .cpr => drainCpr s
  | .dsc => drainDsc s

/-- The response to a write (R142, R200): `resp`, and an `rdata` no rule gives, which is free (notes/assumptions/24.md). -/
def answerWrite (okay : Bool) (s : State) : State :=
  { s with port := { s.port with bus := ⟨okay, Config.writeRdata s.port.writes⟩, writes := s.port.writes + 1 } }

/-- The response to an admitted write, `OKAY` (R200). -/
def answerOkay (s : State) : State := answerWrite true s

end Sys2Proof.Machine
end

