-- ==== Sys2Proof/Machine/Taps.lean ====
section
/-! DEFINITION. Machine/Taps.lean: the coefficient derivation of a successful COMMIT (R225, R310 to R313, R401). -/

namespace Sys2Proof.Machine

/-- `Kh = ceil(fmul(i2f(delay), sps))` (R221, R310). -/
def halfSpan (delay : Nat) (sps : F32) : Nat := (ceilI (fmul (i2f delay) sps)).toNat

/-- `L = 2 * Kh * N + 1` (R221, R310). -/
def tapLen (kh n : Nat) : Nat := 2 * kh * n + 1

/-- The terms of branch `b`: `p[k*N + b]` for `k = 0..2*Kh` with `k*N + b <= L - 1` (R311, R312). -/
def branchTerms (p : Nat → F32) (kh n b : Nat) : List F32 :=
  ((List.range (2 * kh + 1)).filter (fun k => decide (k * n + b < tapLen kh n))).map (fun k => p (k * n + b))

/-- The branch sum by left fold (R312). -/
def branchSum (p : Nat → F32) (kh n b : Nat) : F32 := fsum (branchTerms p kh n b)

/-- `s_b` of R312: the sum of branch `b` up to the middle branch, the mirrored branch's sum beyond it. -/
def branchNorm (p : Nat → F32) (kh n b : Nat) : F32 :=
  if b ≤ n / 2 then branchSum p kh n b else branchSum p kh n (n - b)

/-- The free prototype made symmetric (R310, P2). -/
def protoSym (beta : F32) (delay : Nat) (sps : F32) (n i : Nat) : F32 :=
  Config.protoFree beta delay sps n (min i (tapLen (halfSpan delay sps) n - 1 - i))

/-- P1 and P3 of R310: finite taps, and finite, strictly positive branch sums. -/
def protoLegal (p : Nat → F32) (kh n : Nat) : Bool :=
  (List.range (tapLen kh n)).all (fun i => isfinite (p i))
    && (List.range (n / 2 + 1)).all (fun b => isfinite (branchSum p kh n b) && flt f0 (branchSum p kh n b))

/-- `rrc_proto(beta, delay, sps, N)` (R16, R310): the free prototype where it has the properties R310 requires; a function
that lacks them is no prototype, and the constant prototype stands in its place (notes/assumptions/5.md). -/
def rrcProto (beta : F32) (delay : Nat) (sps : F32) (n : Nat) : Nat → F32 :=
  if protoLegal (protoSym beta delay sps n) (halfSpan delay sps) n then protoSym beta delay sps n else fun _ => f1

/-- The normalised coefficients `ACT.c[0..L-1]` (R312). -/
def normTaps (p : Nat → F32) (kh n : Nat) : List F32 :=
  let sums := (List.range n).map (branchNorm p kh n)
  (List.range (tapLen kh n)).map (fun i => fdiv (p i) (sums.getD (i % n) f0))

/-- `theta` of R401. -/
def loopTheta (bw zeta : F32) : F32 := fdiv bw (fadd zeta (fdiv fQuarter zeta))

/-- `d` of R401. -/
def loopDen (zeta theta : F32) : F32 := fadd (fadd f1 (fmul (fmul f2 zeta) theta)) (fmul theta theta)

/-- `ACT.Kp` (R401). -/
def loopKp (zeta theta kd : F32) : F32 := fdiv (fmul (fmul f4 zeta) theta) (fmul (loopDen zeta theta) kd)

/-- `ACT.Ki` (R401). -/
def loopKi (zeta theta kd : F32) : F32 := fdiv (fmul f4 (fmul theta theta)) (fmul (loopDen zeta theta) kd)

/-- `ACT <- S; DERIVE()` (R221, R225). -/
def deriveAct (c : Cfg) : Act :=
  let n := c.rrcNfilts.toNat
  let kh := halfSpan c.rrcDelay.toNat c.sps
  let theta := loopTheta c.strLoopBw c.strDamping
  { cfg := c
    l := tapLen kh n
    kh := kh
    n := n
    c := normTaps (rrcProto c.rrcRolloff c.rrcDelay.toNat c.sps n) kh n
    kp := loopKp c.strDamping theta c.strTedGain
    ki := loopKi c.strDamping theta c.strTedGain }

end Sys2Proof.Machine
end

