-- ==== Sys2Proof/Machine/Commands.lean ====
section
/-! DEFINITION. Machine/Commands.lean: the commands (R210 to R227) and the rejected command words (R151). A command's effect
is the shared operation `cmd…`; its meaning adds the answer OKAY of the write to `CMD` that carries it (R200). -/

namespace Sys2Proof.Machine

/-! The checks of COMMIT (R221), one per bit of `CFG_ERR` (R38). -/

/-- Bit 0, ROLLOFF. -/
def rolloffOk (c : Cfg) : Bool := isfinite c.rrcRolloff && flt f0 c.rrcRolloff && fle c.rrcRolloff f1
/-- Bit 1, DELAY. -/
def delayOk (c : Cfg) : Bool := decide (1 ≤ c.rrcDelay.toNat) && decide (c.rrcDelay.toNat ≤ Config.delayMax)
/-- Bit 2, NFILTS. -/
def nfiltsOk (c : Cfg) : Bool := decide (1 ≤ c.rrcNfilts.toNat) && decide (c.rrcNfilts.toNat ≤ Config.nfiltsMax)
/-- Bit 3, SPS. -/
def spsOk (c : Cfg) : Bool := isfinite c.sps && fle Config.spsMin c.sps && fle c.sps Config.spsMax
/-- Bit 4, TAPS: not evaluated when bit 1, 2 or 3 is set. -/
def tapsOk (c : Cfg) : Bool :=
  !(delayOk c && nfiltsOk c && spsOk c)
    || decide (tapLen (halfSpan c.rrcDelay.toNat c.sps) c.rrcNfilts.toNat ≤ Config.tapsMax)
/-- Bit 5, AGC. -/
def agcOk (c : Cfg) : Bool :=
  isfinite c.agcGain && isfinite c.agcRate && isfinite c.agcRef && isfinite c.agcGmin && isfinite c.agcGmax
    && flt f0 c.agcGmin && fle c.agcGmin c.agcGmax && fle c.agcGmin c.agcGain && fle c.agcGain c.agcGmax
    && fle f0 c.agcRate && flt c.agcRate f1 && flt f0 c.agcRef
/-- Bit 6, LOOP_BW. -/
def loopBwOk (c : Cfg) : Bool := isfinite c.strLoopBw && fle f0 c.strLoopBw && flt c.strLoopBw f1
/-- Bit 7, DAMPING. -/
def dampingOk (c : Cfg) : Bool := isfinite c.strDamping && flt f0 c.strDamping
/-- Bit 8, TED_GAIN. -/
def tedGainOk (c : Cfg) : Bool := isfinite c.strTedGain && flt f0 c.strTedGain
/-- Bit 9, MAX_DEV. -/
def maxDevOk (c : Cfg) : Bool := isfinite c.strMaxDev && fle f0 c.strMaxDev && fle c.strMaxDev (fsub c.sps f1)
/-- Bit 10, MODCOD_FRAME. -/
def modcodFrameOk (c : Cfg) : Bool :=
  decide (1 ≤ c.modcod.toNat) && decide (c.modcod.toNat ≤ 28)
    && !(c.frameSize == 1#1 && [11, 17, 23, 28].contains c.modcod.toNat)
/-- Bit 11, GOLD. -/
def goldOk (c : Cfg) : Bool := decide (c.goldCode.toNat ≤ Config.goldMax)
/-- Bit 12, FREQ_PERIOD. -/
def freqPeriodOk (c : Cfg) : Bool := decide (1 ≤ c.plFreqEstPeriod.toNat)
/-- Bit 13, CORR_THRESH. -/
def corrThreshOk (c : Cfg) : Bool := isfinite c.corrThresh && flt f0 c.corrThresh && flt c.corrThresh f1
/-- Bit 14, LOCK_COUNTS. -/
def lockCountsOk (c : Cfg) : Bool := decide (1 ≤ c.lockLossN.toNat) && decide (1 ≤ c.plscMmN.toNat)
/-- Bit 15, PLSC_MAX_DIST. -/
def plscMaxDistOk (c : Cfg) : Bool := decide (1 ≤ c.plscMaxDist.toNat) && decide (c.plscMaxDist.toNat ≤ 31)
/-- Bit 16, PILOT_THRESH. -/
def pilotThreshOk (c : Cfg) : Bool := isfinite c.pilotThresh && flt f0 c.pilotThresh && flt c.pilotThresh f1

/-- The checks in the order of their bits. -/
def cfgChecks (c : Cfg) : List Bool :=
  [rolloffOk c, delayOk c, nfiltsOk c, spsOk c, tapsOk c, agcOk c, loopBwOk c, dampingOk c, tedGainOk c, maxDevOk c,
   modcodFrameOk c, goldOk c, freqPeriodOk c, corrThreshOk c, lockCountsOk c, plscMaxDistOk c, pilotThreshOk c]

/-- The number whose bit `k` tells that check `k` failed. -/
def failBits : List Bool → Nat
  | [] => 0
  | ok :: rest => (if ok then 0 else 1) + 2 * failBits rest

/-- The mask `m` of R221. -/
def cfgMask (c : Cfg) : BitVec 17 := BitVec.ofNat 17 (failBits (cfgChecks c))

/-! Effects of the commands. -/

/-- `NOP` (R220). -/
def cmdNop (s : State) : State := s

/-- `COMMIT` once it is admitted: a legal shadow configuration becomes active and every unit is reset; an illegal one clears
`CFG_VALID` and raises `CFG_FAIL` (R221). -/
def commitEffect (s : State) : State :=
  if cfgMask s.shadow = 0#17 then
    resetUnits { s with act := deriveAct s.shadow, ctl := { s.ctl with cfgErr := 0#17, cfgValid := true } }
  else
    irqSet .cfgFail { s with ctl := { s.ctl with cfgErr := cfgMask s.shadow, cfgValid := false } }

/-- `COMMIT` (R221): refused with REASON 3 while `RUNNING` = 1. -/
def cmdCommit (s : State) : State := if s.ctl.running then rejectCommand 3#2 0x01#8 s else commitEffect s

/-- `START` (R222): refused with REASON 3 while `CFG_VALID` = 0. -/
def cmdStart (s : State) : State :=
  if s.ctl.cfgValid then { s with ctl := { s.ctl with running := true } } else rejectCommand 3#2 0x02#8 s

/-- `STOP` (R223). -/
def cmdStop (s : State) : State := { s with ctl := { s.ctl with running := false } }

/-- `SOFT_RESET` (R224). -/
def cmdSoftReset (s : State) : State := resetUnits { s with ctl := { s.ctl with running := false } }

/-- `FORCE_SEARCH` (R226). -/
def cmdForceSearch (s : State) : State := { s with pls := { s.pls with force := true } }

/-- `CLEAR_COUNTERS` (R227). -/
def cmdClearCounters (s : State) : State := { s with cnt := ⟨0#32, 0#32, 0#32, 0#32, 0#32⟩ }

/-- A word that is no defined command (R151, R210): REASON 1 for a reserved opcode, else REASON 2 for a nonzero `ARG`; a
defined command word changes nothing here. -/
def cmdReserved (w : BitVec 32) (s : State) : State :=
  if 6 < field w.toNat 24 8 then rejectCommand 1#2 (w.extractLsb' 24 8) s
  else if field w.toNat 0 24 ≠ 0 then rejectCommand 2#2 (w.extractLsb' 24 8) s
  else s

/-! Meanings. -/

/-- `NOP`. -/
def execNop (s : State) : Host.Outcome State Fault Refusal := .next (answerOkay (cmdNop s))
/-- `COMMIT`. -/
def execCommit (s : State) : Host.Outcome State Fault Refusal := .next (answerOkay (cmdCommit s))
/-- `START`. -/
def execStart (s : State) : Host.Outcome State Fault Refusal := .next (answerOkay (cmdStart s))
/-- `STOP`. -/
def execStop (s : State) : Host.Outcome State Fault Refusal := .next (answerOkay (cmdStop s))
/-- `SOFT_RESET`. -/
def execSoftReset (s : State) : Host.Outcome State Fault Refusal := .next (answerOkay (cmdSoftReset s))
/-- `FORCE_SEARCH`. -/
def execForceSearch (s : State) : Host.Outcome State Fault Refusal := .next (answerOkay (cmdForceSearch s))
/-- `CLEAR_COUNTERS`. -/
def execClearCounters (s : State) : Host.Outcome State Fault Refusal := .next (answerOkay (cmdClearCounters s))
/-- A rejected command word. -/
def execReserved (w : BitVec 32) (s : State) : Host.Outcome State Fault Refusal := .next (answerOkay (cmdReserved w s))

end Sys2Proof.Machine
end

