-- ==== Sys2Proof/Machine/Csr.lean ====
section
/-! DEFINITION. Machine/Csr.lean: the CSR map of 10_state.md section 2: every register's offset, access type, read value and
write effect (R32 to R51, R104, R105). A write to `CMD` is a command: Machine/Bus.lean dispatches it. -/

namespace Sys2Proof.Machine

/-- The mapped registers, in the order of their offsets (R35 to R49). -/
inductive Csr where
  /-- `ID` -/
  | id
  /-- `VERSION` -/
  | version
  /-- `CMD` -/
  | cmd
  /-- `STATUS` -/
  | status
  /-- `CFG_ERR` -/
  | cfgErr
  /-- `CMD_ERR_INFO` -/
  | cmdErrInfo
  /-- `IRQ_STATUS` -/
  | irqStatus
  /-- `IRQ_ENABLE` -/
  | irqEnable
  /-- `NUM_EVT` -/
  | numEvt
  /-- `SAMPLE_CNT_LO` -/
  | sampleCntLo
  /-- `SAMPLE_CNT_HI` -/
  | sampleCntHi
  /-- `SYMBOL_CNT_LO` -/
  | symbolCntLo
  /-- `SYMBOL_CNT_HI` -/
  | symbolCntHi
  /-- `FRAME_CNT` -/
  | frameCnt
  /-- `DROP_CNT` -/
  | dropCnt
  /-- `ACQ_CNT` -/
  | acqCnt
  /-- `LOSS_CNT` -/
  | lossCnt
  /-- `PILOT_FAIL_CNT` -/
  | pilotFailCnt
  /-- `AGC_GAIN` -/
  | agcGain
  /-- `AGC_RATE` -/
  | agcRate
  /-- `AGC_REF` -/
  | agcRef
  /-- `AGC_GMIN` -/
  | agcGmin
  /-- `AGC_GMAX` -/
  | agcGmax
  /-- `RRC_ROLLOFF` -/
  | rrcRolloff
  /-- `RRC_DELAY` -/
  | rrcDelay
  /-- `RRC_NFILTS` -/
  | rrcNfilts
  /-- `SPS` -/
  | sps
  /-- `SYM_RATE` -/
  | symRate
  /-- `STR_DAMPING` -/
  | strDamping
  /-- `STR_LOOP_BW` -/
  | strLoopBw
  /-- `STR_TED_GAIN` -/
  | strTedGain
  /-- `STR_MAX_DEV` -/
  | strMaxDev
  /-- `MODCOD` -/
  | modcod
  /-- `FRAME_SIZE` -/
  | frameSize
  /-- `GOLD_CODE` -/
  | goldCode
  /-- `PL_FREQ_EST_PERIOD` -/
  | plFreqEstPeriod
  /-- `SYNC_CTRL` -/
  | syncCtrl
  /-- `CORR_THRESH` -/
  | corrThresh
  /-- `LOCK_LOSS_N` -/
  | lockLossN
  /-- `PLSC_MM_N` -/
  | plscMmN
  /-- `PLSC_MAX_DIST` -/
  | plscMaxDist
  /-- `PILOT_THRESH` -/
  | pilotThresh
  /-- `LAST_HDR_SYM_LO` -/
  | lastHdrSymLo
  /-- `LAST_HDR_SYM_HI` -/
  | lastHdrSymHi
  /-- `LAST_HDR_SMP_LO` -/
  | lastHdrSmpLo
  /-- `LAST_HDR_SMP_HI` -/
  | lastHdrSmpHi
  /-- `LAST_PLS` -/
  | lastPls
  /-- `FRAME_LEN` -/
  | frameLen
  /-- `FREQ_EST` -/
  | freqEst
  /-- `FREQ_EST_HZ` -/
  | freqEstHz
  /-- `AGC_GAIN_CUR` -/
  | agcGainCur
  /-- `STR_PERIOD_CUR` -/
  | strPeriodCur
  /-- `STR_MU_CUR` -/
  | strMuCur
  /-- `STR_ERR_CUR` -/
  | strErrCur
  /-- `CORR_LAST` -/
  | corrLast
  /-- `PHASE_LAST` -/
  | phaseLast
  /-- `SYNC_CNT` -/
  | syncCnt
  /-- `TAP_INDEX` -/
  | tapIndex
  /-- `TAP_DATA` -/
  | tapData
  /-- `TAP_COUNT` -/
  | tapCount
  /-- `STR_KP` -/
  | strKp
  /-- `STR_KI` -/
  | strKi
  deriving DecidableEq, Repr

/-- The byte offset of a register (sections 2.1 to 2.5 of 10_state.md). -/
def csrOffset : Csr → BitVec 12
  | .id => 0x000#12
  | .version => 0x004#12
  | .cmd => 0x008#12
  | .status => 0x00C#12
  | .cfgErr => 0x010#12
  | .cmdErrInfo => 0x014#12
  | .irqStatus => 0x018#12
  | .irqEnable => 0x01C#12
  | .numEvt => 0x020#12
  | .sampleCntLo => 0x030#12
  | .sampleCntHi => 0x034#12
  | .symbolCntLo => 0x038#12
  | .symbolCntHi => 0x03C#12
  | .frameCnt => 0x040#12
  | .dropCnt => 0x044#12
  | .acqCnt => 0x048#12
  | .lossCnt => 0x04C#12
  | .pilotFailCnt => 0x050#12
  | .agcGain => 0x100#12
  | .agcRate => 0x104#12
  | .agcRef => 0x108#12
  | .agcGmin => 0x10C#12
  | .agcGmax => 0x110#12
  | .rrcRolloff => 0x120#12
  | .rrcDelay => 0x124#12
  | .rrcNfilts => 0x128#12
  | .sps => 0x130#12
  | .symRate => 0x134#12
  | .strDamping => 0x138#12
  | .strLoopBw => 0x13C#12
  | .strTedGain => 0x140#12
  | .strMaxDev => 0x144#12
  | .modcod => 0x150#12
  | .frameSize => 0x154#12
  | .goldCode => 0x158#12
  | .plFreqEstPeriod => 0x15C#12
  | .syncCtrl => 0x160#12
  | .corrThresh => 0x164#12
  | .lockLossN => 0x168#12
  | .plscMmN => 0x16C#12
  | .plscMaxDist => 0x170#12
  | .pilotThresh => 0x174#12
  | .lastHdrSymLo => 0x200#12
  | .lastHdrSymHi => 0x204#12
  | .lastHdrSmpLo => 0x208#12
  | .lastHdrSmpHi => 0x20C#12
  | .lastPls => 0x210#12
  | .frameLen => 0x214#12
  | .freqEst => 0x218#12
  | .freqEstHz => 0x21C#12
  | .agcGainCur => 0x220#12
  | .strPeriodCur => 0x224#12
  | .strMuCur => 0x228#12
  | .strErrCur => 0x22C#12
  | .corrLast => 0x230#12
  | .phaseLast => 0x234#12
  | .syncCnt => 0x238#12
  | .tapIndex => 0x240#12
  | .tapData => 0x244#12
  | .tapCount => 0x248#12
  | .strKp => 0x24C#12
  | .strKi => 0x250#12

/-- Every mapped register. -/
def allCsrs : List Csr :=
  [.id, .version, .cmd, .status, .cfgErr, .cmdErrInfo,
   .irqStatus, .irqEnable, .numEvt, .sampleCntLo, .sampleCntHi, .symbolCntLo,
   .symbolCntHi, .frameCnt, .dropCnt, .acqCnt, .lossCnt, .pilotFailCnt,
   .agcGain, .agcRate, .agcRef, .agcGmin, .agcGmax, .rrcRolloff,
   .rrcDelay, .rrcNfilts, .sps, .symRate, .strDamping, .strLoopBw,
   .strTedGain, .strMaxDev, .modcod, .frameSize, .goldCode, .plFreqEstPeriod,
   .syncCtrl, .corrThresh, .lockLossN, .plscMmN, .plscMaxDist, .pilotThresh,
   .lastHdrSymLo, .lastHdrSymHi, .lastHdrSmpLo, .lastHdrSmpHi, .lastPls, .frameLen,
   .freqEst, .freqEstHz, .agcGainCur, .strPeriodCur, .strMuCur, .strErrCur,
   .corrLast, .phaseLast, .syncCnt, .tapIndex, .tapData, .tapCount,
   .strKp, .strKi]

/-- The register at an offset; none where the offset is unmapped (R33, R202). -/
def csrAt (off : BitVec 12) : Option Csr := allCsrs.find? (fun r => csrOffset r == off)

/-- Access types (R32). -/
inductive Access where
  | ro
  | rw
  | wo
  | w1c
  deriving DecidableEq, Repr

/-- The access type of a register (sections 2.1 to 2.5). -/
def csrAccess : Csr → Access
  | .cmd => .wo
  | .irqStatus => .w1c
  | .numEvt => .w1c
  | .irqEnable => .rw
  | .tapIndex => .rw
  | .agcGain => .rw
  | .agcRate => .rw
  | .agcRef => .rw
  | .agcGmin => .rw
  | .agcGmax => .rw
  | .rrcRolloff => .rw
  | .rrcDelay => .rw
  | .rrcNfilts => .rw
  | .sps => .rw
  | .symRate => .rw
  | .strDamping => .rw
  | .strLoopBw => .rw
  | .strTedGain => .rw
  | .strMaxDev => .rw
  | .modcod => .rw
  | .frameSize => .rw
  | .goldCode => .rw
  | .plFreqEstPeriod => .rw
  | .syncCtrl => .rw
  | .corrThresh => .rw
  | .lockLossN => .rw
  | .plscMmN => .rw
  | .plscMaxDist => .rw
  | .pilotThresh => .rw
  | .id => .ro
  | .version => .ro
  | .status => .ro
  | .cfgErr => .ro
  | .cmdErrInfo => .ro
  | .sampleCntLo => .ro
  | .sampleCntHi => .ro
  | .symbolCntLo => .ro
  | .symbolCntHi => .ro
  | .frameCnt => .ro
  | .dropCnt => .ro
  | .acqCnt => .ro
  | .lossCnt => .ro
  | .pilotFailCnt => .ro
  | .lastHdrSymLo => .ro
  | .lastHdrSymHi => .ro
  | .lastHdrSmpLo => .ro
  | .lastHdrSmpHi => .ro
  | .lastPls => .ro
  | .frameLen => .ro
  | .freqEst => .ro
  | .freqEstHz => .ro
  | .agcGainCur => .ro
  | .strPeriodCur => .ro
  | .strMuCur => .ro
  | .strErrCur => .ro
  | .corrLast => .ro
  | .phaseLast => .ro
  | .syncCnt => .ro
  | .tapData => .ro
  | .tapCount => .ro
  | .strKp => .ro
  | .strKi => .ro

/-- Upper half of a 64-bit value. -/
def hi32 (v : Idx) : BitVec 32 := v.extractLsb' 32 32
/-- Lower half of a 64-bit value. -/
def lo32 (v : Idx) : BitVec 32 := v.extractLsb' 0 32

/-- `TAP_DATA` (R49). -/
def tapData (s : State) : BitVec 32 :=
  if s.ctl.cfgValid && decide (s.ctl.tapIndex.toNat < s.act.l) then s.act.c.getD s.ctl.tapIndex.toNat 0#32 else 0#32

/-- A derived value that reads 0 while `CFG_VALID` = 0 (R49). -/
def whenValid (s : State) (v : BitVec 32) : BitVec 32 := if s.ctl.cfgValid then v else 0#32

/-- The value a read of a register returns; reserved bits read 0 (R32). The `_HI` registers return the holding register
(R104), `CMD` returns 0 (R36). -/
def csrValue (s : State) : Csr → BitVec 32
  | .id => 0x44533252#32
  | .version => 0x00010007#32
  | .cmd => 0#32
  | .status => statusWord s
  | .cfgErr => s.ctl.cfgErr.setWidth 32
  | .cmdErrInfo => 0#22 ++ s.ctl.cmdErrReason ++ s.ctl.cmdErrOpcode
  | .irqStatus => s.ctl.irqStatus.setWidth 32
  | .irqEnable => s.ctl.irqEnable.setWidth 32
  | .numEvt => s.ctl.numEvt.setWidth 32
  | .sampleCntLo => lo32 s.agc.sampleIdx
  | .sampleCntHi => s.holds.sampleHi
  | .symbolCntLo => lo32 s.pls.symbolIdx
  | .symbolCntHi => s.holds.symbolHi
  | .frameCnt => s.cnt.frameCnt
  | .dropCnt => s.cnt.dropCnt
  | .acqCnt => s.cnt.acqCnt
  | .lossCnt => s.cnt.lossCnt
  | .pilotFailCnt => s.cnt.pilotFailCnt
  | .agcGain => s.shadow.agcGain
  | .agcRate => s.shadow.agcRate
  | .agcRef => s.shadow.agcRef
  | .agcGmin => s.shadow.agcGmin
  | .agcGmax => s.shadow.agcGmax
  | .rrcRolloff => s.shadow.rrcRolloff
  | .rrcDelay => s.shadow.rrcDelay.setWidth 32
  | .rrcNfilts => s.shadow.rrcNfilts.setWidth 32
  | .sps => s.shadow.sps
  | .symRate => s.shadow.symRate
  | .strDamping => s.shadow.strDamping
  | .strLoopBw => s.shadow.strLoopBw
  | .strTedGain => s.shadow.strTedGain
  | .strMaxDev => s.shadow.strMaxDev
  | .modcod => s.shadow.modcod.setWidth 32
  | .frameSize => s.shadow.frameSize.setWidth 32
  | .goldCode => s.shadow.goldCode.setWidth 32
  | .plFreqEstPeriod => s.shadow.plFreqEstPeriod.setWidth 32
  | .syncCtrl => s.shadow.syncCtrl.setWidth 32
  | .corrThresh => s.shadow.corrThresh
  | .lockLossN => s.shadow.lockLossN.setWidth 32
  | .plscMmN => s.shadow.plscMmN.setWidth 32
  | .plscMaxDist => s.shadow.plscMaxDist.setWidth 32
  | .pilotThresh => s.shadow.pilotThresh
  | .lastHdrSymLo => lo32 s.live.lastHdrSym
  | .lastHdrSymHi => s.holds.hdrSymHi
  | .lastHdrSmpLo => lo32 s.live.lastHdrSmp
  | .lastHdrSmpHi => s.holds.hdrSmpHi
  | .lastPls => 0#17 ++ s.live.lastDist ++ 0#1 ++ s.live.lastPls
  | .frameLen => s.live.frameLen.setWidth 32
  | .freqEst => s.live.freqEst
  | .freqEstHz => s.live.freqEstHz
  | .agcGainCur => s.live.agcGainCur
  | .strPeriodCur => s.live.strPeriodCur
  | .strMuCur => s.live.strMuCur
  | .strErrCur => s.live.strErrCur
  | .corrLast => s.live.corrLast
  | .phaseLast => s.live.phaseLast
  | .syncCnt => s.pls.epoch.extractLsb' 0 16 ++ s.pls.mm ++ s.pls.miss
  | .tapIndex => s.ctl.tapIndex.setWidth 32
  | .tapData => tapData s
  | .tapCount => whenValid s ((BitVec.ofNat 17 s.act.l).setWidth 32)
  | .strKp => whenValid s s.act.kp
  | .strKi => whenValid s s.act.ki

/-- The side effect of a read (R104): a `_LO` half latches the upper half of its value; no other read has one (R105). -/
def csrReadEffect (s : State) : Csr → State
  | .sampleCntLo => { s with holds := { s.holds with sampleHi := hi32 s.agc.sampleIdx } }
  | .symbolCntLo => { s with holds := { s.holds with symbolHi := hi32 s.pls.symbolIdx } }
  | .lastHdrSymLo => { s with holds := { s.holds with hdrSymHi := hi32 s.live.lastHdrSym } }
  | .lastHdrSmpLo => { s with holds := { s.holds with hdrSmpHi := hi32 s.live.lastHdrSmp } }
  | _ => s

/-- The shadow configuration after a write of `v` to a configuration register: a field stores only its own bits (R32). -/
def writeCfg (c : Cfg) (v : BitVec 32) : Csr → Cfg
  | .agcGain => { c with agcGain := v }
  | .agcRate => { c with agcRate := v }
  | .agcRef => { c with agcRef := v }
  | .agcGmin => { c with agcGmin := v }
  | .agcGmax => { c with agcGmax := v }
  | .rrcRolloff => { c with rrcRolloff := v }
  | .rrcDelay => { c with rrcDelay := v.setWidth 8 }
  | .rrcNfilts => { c with rrcNfilts := v.setWidth 10 }
  | .sps => { c with sps := v }
  | .symRate => { c with symRate := v }
  | .strDamping => { c with strDamping := v }
  | .strLoopBw => { c with strLoopBw := v }
  | .strTedGain => { c with strTedGain := v }
  | .strMaxDev => { c with strMaxDev := v }
  | .modcod => { c with modcod := v.setWidth 5 }
  | .frameSize => { c with frameSize := v.setWidth 1 }
  | .goldCode => { c with goldCode := v.setWidth 18 }
  | .plFreqEstPeriod => { c with plFreqEstPeriod := v.setWidth 16 }
  | .syncCtrl => { c with syncCtrl := v.setWidth 2 }
  | .corrThresh => { c with corrThresh := v }
  | .lockLossN => { c with lockLossN := v.setWidth 8 }
  | .plscMmN => { c with plscMmN := v.setWidth 8 }
  | .plscMaxDist => { c with plscMaxDist := v.setWidth 6 }
  | .pilotThresh => { c with pilotThresh := v }
  | _ => c

/-- The state after a write of `v` to a register other than `CMD` (R200): RW stores, W1C clears the bits written 1, RO
ignores. -/
def csrWriteEffect (s : State) (r : Csr) (v : BitVec 32) : State :=
  match r with
  | .irqStatus => { s with ctl := { s.ctl with irqStatus := s.ctl.irqStatus &&& ~~~(v.setWidth 10) } }
  | .numEvt => { s with ctl := { s.ctl with numEvt := s.ctl.numEvt &&& ~~~(v.setWidth 10) } }
  | .irqEnable => { s with ctl := { s.ctl with irqEnable := v.setWidth 10 } }
  | .tapIndex => { s with ctl := { s.ctl with tapIndex := v.setWidth 17 } }
  | _ => { s with shadow := writeCfg s.shadow v r }

end Sys2Proof.Machine
end

