-- ==== Sys2Proof/Machine/Bus.lean ====
section
/-! DEFINITION. Machine/Bus.lean: the CSR bus (R200 to R203, R210) and the two stream ports (R204, R205). -/

namespace Sys2Proof.Machine

/-- A refused read (R202, R203): `(ERR, 0)`, and no state changes but `BUS_ERR`. -/
def readError (s : State) : State := irqSet .busErr { s with port := { s.port with bus := ⟨false, 0#32⟩ } }

/-- A refused write (R202, R203): `ERR`, and no state changes but `BUS_ERR`. -/
def writeError (s : State) : State := irqSet .busErr (answerWrite false s)

/-- The register an access reaches: none when it is misaligned, of another size than 4 bytes (R203), or unmapped (R202). -/
def admitted (off : BitVec 12) (size : Nat) : Option Csr :=
  if size = 4 ∧ off.toNat % 4 = 0 then csrAt off else none

/-- `CMD_DISPATCH(w)` (R210): what a write of `w` to `CMD` does. -/
def cmdDispatch (w : BitVec 32) (s : State) : State :=
  match decodeCmd w with
  | .nop => cmdNop s
  | .commit => cmdCommit s
  | .start => cmdStart s
  | .stop => cmdStop s
  | .softReset => cmdSoftReset s
  | .forceSearch => cmdForceSearch s
  | .clearCounters => cmdClearCounters s
  | _ => cmdReserved w s

/-- `CSR_READ(off, size)` (R201). The value is the one the register holds before the read's own side effect. -/
def execCsrRead (off : BitVec 12) (size : Nat) (s : State) : Host.Outcome State Fault Refusal :=
  match admitted off size with
  | none => .next (readError s)
  | some r => .next { csrReadEffect s r with port := { s.port with bus := ⟨true, csrValue s r⟩ } }

/-- `CSR_WRITE(off, size, wdata)` (R200). -/
def execCsrWrite (off : BitVec 12) (size : Nat) (wdata : BitVec 32) (s : State) : Host.Outcome State Fault Refusal :=
  match admitted off size with
  | none => .next (writeError s)
  | some .cmd => .next (answerOkay (cmdDispatch wdata s))
  | some r => .next (answerOkay (csrWriteEffect s r wdata))

/-- `IN_BEAT(I, Q)` (R204): taken when `RUNNING` = 1 and `F_IN` is not full; otherwise the producer keeps the beat. -/
def execInBeat (i q : F32) (s : State) : Host.Outcome State Fault Refusal :=
  if inReady s then
    .next { s with fifo := { s.fifo with fIn := s.fifo.fIn ++ [⟨i, q⟩] }, port := { s.port with inAck := true } }
  else .next { s with port := { s.port with inAck := false } }

/-- The beat of symbol `k` of a frame (R171, R205). -/
def beatOf (f : Frame) (k : Nat) : OutBeat :=
  { data := (f.sym.getD k czero).im ++ (f.sym.getD k czero).re
    user := f.pls ++ bit1 (decide (k + 1 = f.count)) ++ bit1 (decide (k = 0)) }

/-- `OUT_BEAT()` (R205): enabled regardless of `RUNNING`. -/
def execOutBeat (s : State) : Host.Outcome State Fault Refusal :=
  match s.dsc.outbuf with
  | [] => .next { s with port := { s.port with out := none } }
  | f :: rest =>
    let k := s.dsc.drain
    .next { s with
      dsc := if k + 1 = f.count then { s.dsc with outbuf := rest, drain := 0 } else { s.dsc with drain := k + 1 }
      port := { s.port with out := some (beatOf f k) } }

end Sys2Proof.Machine
end

