-- ==== Sys2Proof/Machine/Gold.lean ====
section
/-! DEFINITION. Machine/Gold.lean: the scrambling sequence of R700 and the exact rotations of R702.

An m-sequence with characteristic polynomial `p` of degree 18 has `s(i) = phi(X^i mod p)` for the linear map `phi` with
`phi(X^k) = s(k)`, `k < 18`. Polynomials over GF(2) are 18-bit words, bit `k` the coefficient of `X^k`. The obligation
GoldSequence ties these definitions to the recurrences R700 states. -/

namespace Sys2Proof.Machine

/-- The period `M = 2^18 - 1` (R700). -/
def goldPeriod : Nat := 262143

/-- `X^18 + X^7 + 1` less its leading term (R700: `1 + X^7 + X^18`). -/
def polyX : BitVec 18 := 0x00081#18
/-- `X^18 + X^10 + X^7 + X^5 + 1` less its leading term (R700: `1 + X^5 + X^7 + X^10 + X^18`). -/
def polyY : BitVec 18 := 0x004A1#18

/-- Multiplication by `X` modulo `X^18 + p`. -/
def mulX (p a : BitVec 18) : BitVec 18 := if a.getLsbD 17 then (a <<< 1) ^^^ p else a <<< 1

/-- `a * b` modulo `X^18 + p`, by Horner's rule over the `k` low coefficients of `b`, the highest first. -/
def mulModFrom (p a b : BitVec 18) : Nat → BitVec 18 → BitVec 18
  | 0, acc => acc
  | k + 1, acc => mulModFrom p a b k (if b.getLsbD k then mulX p acc ^^^ a else mulX p acc)

/-- `a * b` modulo `X^18 + p`. -/
def mulMod (p a b : BitVec 18) : BitVec 18 := mulModFrom p a b 18 0#18

/-- `acc^(2^k) * X^(the k low bits of n)` modulo `X^18 + p`, by square and multiply, the highest bit first. -/
def powXFrom (p : BitVec 18) (n : Nat) : Nat → BitVec 18 → BitVec 18
  | 0, acc => acc
  | k + 1, acc =>
    let sq := mulMod p acc acc
    powXFrom p n k (if n.testBit k then mulX p sq else sq)

/-- `X^i` modulo `X^18 + p`, for `i < 2^18`. -/
def powX (p : BitVec 18) (i : Nat) : BitVec 18 := powXFrom p i 18 1#18

/-- Sum over GF(2) of the coefficients. -/
def parity (a : BitVec 18) : Bool := (List.range 18).foldl (fun acc k => acc ^^ a.getLsbD k) false

/-- `x(i)` of R700: `x(0) = 1`, `x(1..17) = 0`; index modulo the period. -/
def goldX (i : Nat) : Bool := (powX polyX (i % goldPeriod)).getLsbD 0
/-- `y(i)` of R700: `y(0..17) = 1`; index modulo the period. -/
def goldY (i : Nat) : Bool := parity (powX polyY (i % goldPeriod))

/-- `z_n(i)` (R700). -/
def goldZ (n i : Nat) : Bool := goldX ((i + n) % goldPeriod) ^^ goldY i

/-- `R_n(i) = 2 * z_n((i + 131072) mod M) + z_n(i)` (R700). -/
def goldR (n i : Nat) : Fin 4 :=
  match goldZ n ((i + 131072) % goldPeriod), goldZ n i with
  | false, false => 0
  | false, true => 1
  | true, false => 2
  | true, true => 3

/-- `(4 - q) mod 4`, the inverse rotation. -/
def rotInv (q : Fin 4) : Fin 4 := -q

/-- `scr(z, i)` for Gold index `n` (R702). -/
def scr (n i : Nat) (z : Cplx) : Cplx := rotq z (goldR n i)
/-- `dscr(z, i)` for Gold index `n` (R702). -/
def dscr (n i : Nat) (z : Cplx) : Cplx := rotq z (rotInv (goldR n i))

end Sys2Proof.Machine
end

