-- ==== Sys2Proof/Machine/Signal.lean ====
section
/-! DEFINITION. Machine/Signal.lean: the DVB-S2 constants of 43_pl_sync.md section 1 (R500 to R507), frame lengths (R520)
and the position classes of a frame (R506). -/

namespace Sys2Proof.Machine

/-- `SOF`, 26 bits, sent most significant bit first (R500). -/
def sofWord : Nat := 0x18D2E82

/-- `sof[k]`, `k = 0..25` (R500). -/
def sofBit (k : Nat) : Bool := sofWord.testBit (25 - k)

/-- `MODCOD = p[6:2]` (R501). -/
def modcodOf (p : BitVec 7) : Nat := field p.toNat 2 5
/-- `TYPE[1] = p[1]`: short frame (R501). -/
def isShort (p : BitVec 7) : Bool := p.getLsbD 1
/-- `TYPE[0] = p[0]`: pilots (R501). -/
def hasPilots (p : BitVec 7) : Bool := p.getLsbD 0

/-- Slots per frame `S(MODCOD, TYPE[1])` (R503); MODCOD 29 to 31 are reserved and have a free count. -/
def slots (p : BitVec 7) : Nat :=
  let m := modcodOf p
  let short := isShort p
  if m = 0 then 36
  else if m ≤ 11 then (if short then 90 else 360)
  else if m ≤ 17 then (if short then 60 else 240)
  else if m ≤ 23 then (if short then 45 else 180)
  else if m ≤ 28 then (if short then 36 else 144)
  else Config.reservedSlots m short

/-- Data symbols of a frame: `90 * S` (R503). -/
def dataCount (p : BitVec 7) : Nat := 90 * slots p

/-- Number of pilot blocks `P` (R506). -/
def pilotBlocks (p : BitVec 7) : Nat := if hasPilots p && modcodOf p != 0 then (slots p - 1) / 16 else 0

/-- Frame length in symbols `len(p)` (R520). -/
def frameLen (p : BitVec 7) : Nat :=
  if modcodOf p = 0 then 3330 else 90 * (slots p + 1) + 36 * pilotBlocks p

/-- `supported(p)` (R507). -/
def supported (p : BitVec 7) : Bool :=
  decide (modcodOf p ≤ 28) && !(isShort p && [11, 17, 23, 28].contains (modcodOf p))

/-- What a frame position holds (R506). -/
inductive PosClass where
  /-- header symbol `k` -/
  | header (k : Nat)
  /-- symbol `o` of pilot block `blk + 1` -/
  | pilot (blk : Nat) (o : Nat)
  /-- data symbol `didx` -/
  | data (didx : Nat)
  deriving DecidableEq, Repr

/-- The class of frame position `pos` in a frame of `p` pilot blocks (R506). -/
def posClass (p pos : Nat) : PosClass :=
  if pos < 90 then .header pos
  else
    let i := pos - 90
    let g := i % 1476
    let blk := i / 1476
    if 0 < p ∧ 1440 ≤ g ∧ blk < p then .pilot blk (g - 1440) else .data (i - 36 * min blk p)

/-! The PLSC code (R504). -/

/-- `G1..G6` (R504). -/
def plscG : List Nat := [0x55555555, 0x33333333, 0x0F0F0F0F, 0x00FF00FF, 0x0000FFFF, 0xFFFFFFFF]

/-- `y` of R504: the sum of the rows `G_r` with `b_r = 1`, `b_r = p[7 - r]`. -/
def plscY (p : BitVec 7) : Nat :=
  (plscG.zipIdx).foldl (fun acc g => if p.getLsbD (6 - g.2) then acc ^^^ g.1 else acc) 0

/-- `u` of R504: each bit of `y`, most significant first, followed by its exclusive or with `b7`. -/
def plscU (p : BitVec 7) : Nat :=
  (List.range 32).foldl
    (fun acc j =>
      let b := (plscY p).testBit (31 - j)
      4 * acc + 2 * b.toNat + (b ^^ p.getLsbD 0).toNat) 0

/-- The codeword `cw(p)` (R504). -/
def plscCode (p : BitVec 7) : BitVec 64 := BitVec.ofNat 64 (plscU p) ^^^ 0x719D83C953422DFA#64

/-! Header reference symbols (R505). -/

/-- Header bit `a_k(p)` (R505). -/
def headerBit (p : BitVec 7) (k : Nat) : Bool := if k ≤ 25 then sofBit k else (plscCode p).getLsbD (89 - k)

/-- `1 - 2a` as binary32. -/
def bitSign (a : Bool) : F32 := if a then fneg f1 else f1

/-- The pi/2-BPSK symbol `B(a, k)` (R505). -/
def bpsk (a : Bool) (k : Nat) : Cplx :=
  if k % 2 = 0 then ⟨bitSign a, bitSign a⟩ else ⟨fneg (bitSign a), bitSign a⟩

/-- `SYNC_CTRL.HDR_SCR` (R43). -/
def hdrScr (c : Cfg) : Bool := c.syncCtrl.getLsbD 1
/-- `SYNC_CTRL.PLS_FILTER` (R43). -/
def plsFilter (c : Cfg) : Bool := c.syncCtrl.getLsbD 0

/-- The reference symbol of header bit `a` at position `k`, scrambled when `HDR_SCR` = 1 (R505). -/
def refSymbol (c : Cfg) (a : Bool) (k : Nat) : Cplx :=
  if hdrScr c then rotq (bpsk a k) (goldR c.goldCode.toNat k) else bpsk a k

/-- `HREF(p)[k]` (R505). -/
def href (c : Cfg) (p : BitVec 7) (k : Nat) : Cplx := refSymbol c (headerBit p k) k

/-- The decision axis `AX[k]` (R505). -/
def axis (c : Cfg) (k : Nat) : Cplx := refSymbol c false k

/-- The scrambled pilot reference `PREF(i)` (R600). -/
def pilotRef (c : Cfg) (i : Nat) : Cplx := rotq ⟨f1, f1⟩ (goldR c.goldCode.toNat i)

end Sys2Proof.Machine
end

