-- ==== Sys2Proof/Machine/Carrier.lean ====
section
/-! DEFINITION. Machine/Carrier.lean: stage 5, carrier recovery: units 5 to 8 (R600 to R646), and the CPR process step that
is made of their operations (R601). -/

namespace Sys2Proof.Machine

/-! cfo_correction_mixer. -/

/-- The pending estimate takes effect (R602, R603). -/
def applyFreq (s : State) : State :=
  { s with
    cpr := { s.cpr with fAct := s.cpr.fPend, fPendV := false }
    live := { s.live with freqEst := s.cpr.fPend, freqEstHz := fmul s.cpr.fPend s.act.cfg.symRate } }

/-- `MIX(z, pos)` (R602); the output `s1` is kept for the caller. -/
def mixSymbol (z : Cplx) (pos : Nat) (s : State) : State :=
  let t := if pos = 0 ∧ s.cpr.fPendV then applyFreq s else s
  { t with cpr := { t.cpr with
      s1 := cmul z (cisT (fneg t.cpr.psi))
      psi := wrapT (fadd t.cpr.psi t.cpr.fAct) } }

/-! Frame context. -/

/-- Appends to `OUTQ_CPR`. -/
def emit56 (it : Item56) (s : State) : State := { s with cpr := { s.cpr with outq := s.cpr.outq ++ [it] } }

/-- The frame context of a frame that starts (R610). -/
def newFrame (it : Item45) : FrameCtx := ⟨true, it.fid, it.ep, it.pls, frameLen it.pls, pilotBlocks it.pls, 0, false⟩

/-- The report of a frame cut upstream (R610). -/
def reportCut (s : State) : State :=
  if s.cpr.fr.valid && !s.cpr.fr.drop then emit56 (.abort s.cpr.fr.fid) s else s

/-- The new context and the cleared accumulators of R610. -/
def openFrame (it : Item45) (s : State) : State :=
  { s with cpr := { s.cpr with
      hold := []
      fr := newFrame it
      pacc := czero
      pen := f0
      refT := f0
      refTh := f0 } }

/-- The drop of a frame of a failed epoch (R610, R637). -/
def dropIfFailed (it : Item45) (s : State) : State :=
  if s.cpr.failV && it.ep == s.cpr.failEpoch then
    emit56 (.abort it.fid) { s with cpr := { s.cpr with fr := { s.cpr.fr with drop := true } } }
  else { s with cpr := { s.cpr with failV := false } }

/-- `FRAME_START(it)` (R610). -/
def frameStart (it : Item45) (s : State) : State := dropIfFailed it (openFrame it (reportCut s))

/-! frequency_offset_estimator. -/

/-- `FREQ_UPDATE()` (R616). -/
def freqUpdate (s : State) : State :=
  irqSet .freqUpd
    { s with cpr := { s.cpr with
        fPend := argT s.cpr.dAcc
        fPendV := true
        dAcc := czero
        nEst := 0#16
        freqValid := true } }

/-- `u[k]` of R615. -/
def unmodulated (c : Cfg) (pls : BitVec 7) (h : List Cplx) (k : Nat) : Cplx := cmul (h.getD k czero) (conj (href c pls k))

/-- `D` of R615. -/
def headerDiff (c : Cfg) (pls : BitVec 7) (h : List Cplx) : Cplx :=
  csum ((List.range 89).map (fun k => cmul (unmodulated c pls h (k + 1)) (conj (unmodulated c pls h k))))

/-- The estimator at the last header symbol (R615). -/
def estimate (s : State) : State :=
  let t := { s with cpr := { s.cpr with
      dAcc := cadd s.cpr.dAcc (headerDiff s.act.cfg s.cpr.fr.pls s.cpr.hraw)
      nEst := s.cpr.nEst + 1#16 } }
  if t.cpr.nEst = s.act.cfg.plFreqEstPeriod then freqUpdate t else t

/-! phase_recovery_loop. -/

/-- `th` of R620. -/
def headerTheta (c : Cfg) (pls : BitVec 7) (h : List Cplx) : F32 :=
  argT (csum ((List.range 90).map (fun k => cmul (h.getD k czero) (conj (href c pls k)))))

/-- The header phase reference (R620). -/
def phaseRef (s : State) : State :=
  let th := headerTheta s.act.cfg s.cpr.fr.pls s.cpr.hder
  { s with
    cpr := { s.cpr with refT := f44h, refTh := th }
    live := { s.live with phaseLast := th } }

/-- The two header copies (R615): before and after the mixer. -/
def storeHeader (z s1 : Cplx) (pos : Nat) (s : State) : State :=
  { s with cpr := { s.cpr with hraw := s.cpr.hraw.set pos z, hder := s.cpr.hder.set pos s1 } }

/-- `HEADER_SYMBOL(it, s1)` (R615, R620). -/
def headerSymbol (z s1 : Cplx) (pos : Nat) (s : State) : State :=
  let t := storeHeader z s1 pos s
  if pos = 89 then phaseRef (estimate t) else t

/-- `PHASE(t, ta, tha, tb, thb)` (R622). -/
def phaseAt (t ta tha tb thb : F32) : F32 :=
  wrapT (fadd tha (fmul (wrapT (fsub thb tha)) (fdiv (fsub t ta) (fsub tb ta))))

/-- The item of `FORWARD(s1, pos, didx, phi)` (R623). -/
def forwardItem (fr : FrameCtx) (s1 : Cplx) (pos didx : Nat) (phi : F32) : Item56 :=
  .data (cmul s1 (cisT (fneg phi))) fr.pls fr.fid didx (pos - 90)

/-- `DATA_SYMBOL(didx, pos, s1)` (R621). -/
def dataSymbol (didx pos : Nat) (s1 : Cplx) (s : State) : State :=
  if (pos - 90) / 1476 < s.cpr.fr.p then
    { s with cpr := { s.cpr with hold := s.cpr.hold ++ [⟨s1, pos, didx⟩] } }
  else emit56 (forwardItem s.cpr.fr s1 pos didx s.cpr.refTh) s

/-! pilot_symbol_phase_tracker. -/

/-- `RELEASE(tb, thb)` (R631). -/
def release (tb thb : F32) (s : State) : State :=
  { s with cpr := { s.cpr with
      outq := s.cpr.outq ++ s.cpr.hold.map (fun h =>
        forwardItem s.cpr.fr h.s1 h.pos h.didx (phaseAt (i2f h.pos) s.cpr.refT s.cpr.refTh tb thb))
      hold := [] } }

/-- `PILOT_ABSENT()` (R635). -/
def pilotAbsent (s : State) : Bool :=
  !flt f0 s.cpr.pen || flt (fdiv (cnorm2 s.cpr.pacc) (fmul f72 s.cpr.pen)) s.act.cfg.pilotThresh

/-- `FORCE_REQUEST(e)` (R640). -/
def forceRequest (e : BitVec 32) (s : State) : State :=
  { s with pls := { s.pls with cforce := true, cforceEp := e } }

/-- `PILOT_FAIL()` (R636). -/
def pilotFail (s : State) : State :=
  forceRequest s.cpr.fr.ep
    (irqSet .pilotFail
      { s with
        cpr := { s.cpr with
          hold := []
          fr := { s.cpr.fr with drop := true }
          outq := s.cpr.outq ++ [.abort s.cpr.fr.fid]
          failV := true
          failEpoch := s.cpr.fr.ep }
        cnt := { s.cnt with pilotFailCnt := s.cnt.pilotFailCnt + 1#32 } })

/-- Payload index of symbol `o` of pilot block `blk + 1` (R506). -/
def pilotIndex (blk o : Nat) : Nat := 1476 * blk + 1440 + o

/-- The centre of pilot block `j = blk + 1` (R630): `90 + 1440*j + 36*(j-1)`, plus 17.5. -/
def pilotCentre (blk : Nat) : F32 := fadd (i2f ((90 + 1440 * (blk + 1) + 36 * blk : Nat) : Int)) f17h

/-- The accumulation of R630. -/
def pilotAccumulate (i : Nat) (s1 : Cplx) (s : State) : State :=
  { s with cpr := { s.cpr with
      pacc := cadd s.cpr.pacc (cmul s1 (conj (pilotRef s.act.cfg i)))
      pen := fadd s.cpr.pen (cnorm2 s1) } }

/-- The pilot phase reference at the end of a block that is present (R630, R631). -/
def pilotReference (blk : Nat) (s : State) : State :=
  let tb := pilotCentre blk
  let thb := argT s.cpr.pacc
  let t := release tb thb s
  { t with
    cpr := { t.cpr with refT := tb, refTh := thb, pacc := czero, pen := f0 }
    live := { t.live with phaseLast := thb } }

/-- `PILOT_SYMBOL(j, o, i, s1)`, `j = blk + 1` (R630). -/
def pilotSymbol (blk o : Nat) (s1 : Cplx) (s : State) : State :=
  let t := pilotAccumulate (pilotIndex blk o) s1 s
  if o = 35 then (if pilotAbsent t then pilotFail t else pilotReference blk t) else t

/-! The process step. -/

/-- The case of R601 on the class of the position (R506). -/
def cprCase (it : Item45) (s : State) : State :=
  match posClass s.cpr.fr.p it.pos with
  | .header _ => headerSymbol it.z s.cpr.s1 it.pos s
  | .pilot blk o => pilotSymbol blk o s.cpr.s1 s
  | .data didx => dataSymbol didx it.pos s.cpr.s1 s

/-- The end of a frame at CPR (R601). -/
def closeFrame (it : Item45) (s : State) : State :=
  if it.pos + 1 = s.cpr.fr.len then { s with cpr := { s.cpr with fr := { s.cpr.fr with valid := false } } } else s

/-- R601 from `fr.next` on, for an item that continues or starts the frame. -/
def cprBody (it : Item45) (s : State) : State :=
  let t := mixSymbol it.z it.pos { s with cpr := { s.cpr with fr := { s.cpr.fr with next := it.pos + 1 } } }
  if t.cpr.fr.drop then t else closeFrame it (cprCase it t)

/-- The guard of R601: the item continues the current frame. -/
def continues (it : Item45) (fr : FrameCtx) : Bool := fr.valid && it.fid == fr.fid && it.pos == fr.next

/-- `CPR_STEP(it)` on an item already taken from `L45` (R601). -/
def cprProcess (it : Item45) (s : State) : State :=
  if it.pos = 0 then cprBody it (frameStart it s)
  else if continues it s.cpr.fr then cprBody it s
  else s

/-- The CPR process step (R110, R601). Not enabled: not taken. -/
def cprStep (s : State) : State :=
  match s.fifo.l45 with
  | [] => s
  | it :: rest => if cprEnabled s then cprProcess it { s with fifo := { s.fifo with l45 := rest } } else s

/-! Meanings of the operations the opcode table names, each when CPR may run (R110). -/

/-- `FREQ_UPDATE` (R616). -/
def execFreqUpdate (s : State) : Host.Outcome State Fault Refusal := if cprReady s then .next (freqUpdate s) else .next s

/-- `MIX` (R602). -/
def execMix (z : Cplx) (pos : BitVec 16) (s : State) : Host.Outcome State Fault Refusal :=
  if cprReady s then .next (mixSymbol z pos.toNat s) else .next s

/-- `PHASE_REF` (R620). -/
def execPhaseRef (s : State) : Host.Outcome State Fault Refusal := if cprReady s then .next (phaseRef s) else .next s

/-- `PILOT_SYMBOL` (R630). -/
def execPilotSymbol (blk o : BitVec 8) (s1 : Cplx) (s : State) : Host.Outcome State Fault Refusal :=
  if cprReady s then .next (pilotSymbol blk.toNat o.toNat s1 s) else .next s

end Sys2Proof.Machine
end

