-- ==== Sys2Proof/Machine/Descrambler.lean ====
section
/-! DEFINITION. Machine/Descrambler.lean: stage 6, lfsr_descrambler and emitter (R711, R720). -/

namespace Sys2Proof.Machine

/-- The frame record a first data symbol opens (R711). -/
def startCur (pls : BitVec 7) (fid : BitVec 32) : CurFrame := ⟨true, fid, pls, dataCount pls, 0, [], false⟩

/-- A data symbol reaches the frame record (R711). -/
def curData (n : Nat) (z : Cplx) (pls : BitVec 7) (fid : BitVec 32) (didx i : Nat) (c : CurFrame) : CurFrame :=
  let c1 := if didx = 0 then startCur pls fid else c
  if c1.valid && fid == c1.fid && didx == c1.n then
    { c1 with sym := c1.sym ++ [dscr n i z], n := c1.n + 1, done := c1.done || c1.n + 1 == c1.count }
  else c1

/-- `ABORT_FRAME(fid)` (R720). -/
def abortFrame (fid : BitVec 32) (s : State) : State :=
  dropFrame
    { s with dsc := { s.dsc with cur := if s.dsc.cur.valid && s.dsc.cur.fid == fid then curEmpty else s.dsc.cur } }

/-- `DSC_STEP(it)` on an item already taken from `L56` (R711). -/
def dscProcess (it : Item56) (s : State) : State :=
  match it with
  | .data z pls fid didx i =>
    { s with dsc := { s.dsc with cur := curData s.act.cfg.goldCode.toNat z pls fid didx i s.dsc.cur } }
  | .abort fid => abortFrame fid s

/-- `DSC_STEP` (R711). Not enabled (R110): not taken. -/
def execDscStep (s : State) : Host.Outcome State Fault Refusal :=
  match s.fifo.l56 with
  | [] => .next s
  | it :: rest =>
    if dscEnabled s then .next (dscProcess it { s with fifo := { s.fifo with l56 := rest } }) else .next s

end Sys2Proof.Machine
end

