-- ==== Sys2Proof/Machine/FrontEnd.lean ====
section
/-! DEFINITION. Machine/FrontEnd.lean: stage 1 agc_normalizer (R300 to R303) and stage 2 matched_filter_rrc (R314 to
R316). -/

namespace Sys2Proof.Machine

/-! AGC. -/

/-- The scaled sample before saturation (R302), with the gain before this sample's update. -/
def agcProduct (g : F32) (xs : Cplx) : Cplx := ⟨fmul g xs.re, fmul g xs.im⟩

/-- `gn` of R303. -/
def agcNext (c : Cfg) (g : F32) (y : Cplx) : F32 := fadd g (fmul c.agcRate (fsub c.agcRef (cabs y)))

/-- `g2` of R303. -/
def agcClamped (c : Cfg) (g : F32) (y : Cplx) : F32 := clampf (agcNext c g y) c.agcGmin c.agcGmax

/-- `AGC_STEP(x)` on a sample already taken from `F_IN` (R300 to R303). -/
def agcProcess (x : Cplx) (s : State) : State :=
  let xs := csat x
  let raw := agcProduct s.agc.g xs
  let y := csat raw
  let g2 := agcClamped s.act.cfg s.agc.g y
  let clipped := csatChanges x || csatChanges raw || g2 != agcNext s.act.cfg s.agc.g y
  raiseNumIf clipped .agc
    { s with
      agc := { g := g2, sampleIdx := s.agc.sampleIdx + 1#64, outq := s.agc.outq ++ [⟨y, s.agc.sampleIdx⟩] }
      live := { s.live with agcGainCur := g2 } }

/-- `AGC_STEP` (R300). Not enabled (R110): not taken. -/
def execAgcStep (s : State) : Host.Outcome State Fault Refusal :=
  match s.fifo.fIn with
  | [] => .next s
  | x :: rest =>
    if agcEnabled s then .next (agcProcess x { s with fifo := { s.fifo with fIn := rest } }) else .next s

/-! Matched filter. -/

/-- The delay line after a new sample: same length, newest first (R314). -/
def mfShift (z : Cplx) (x : List Cplx) : List Cplx := (z :: x).take x.length

/-- The unsaturated output of branch `b` (R314). -/
def mfBranch (a : Act) (x : List Cplx) (b : Nat) : Cplx :=
  csum (((List.range (2 * a.kh + 1)).filter (fun k => decide (k * a.n + b < a.l))).map
    (fun k => cscale (a.c.getD (k * a.n + b) f0) (x.getD k czero)))

/-- The unsaturated outputs of all branches (R314). -/
def mfOutputs (a : Act) (x : List Cplx) : List Cplx := (List.range a.n).map (mfBranch a x)

/-- `MF_STEP(z, smp)` on an item already taken from `L12` (R314). -/
def mfProcess (it : Item12) (s : State) : State :=
  let t := { s with mf := { s.mf with x := mfShift it.z s.mf.x } }
  let acc := mfOutputs t.act (delayLine t)
  raiseNumIf (acc.any csatChanges) .mf
    { t with mf := { t.mf with outq := t.mf.outq ++ [⟨acc.map csat, it.smp⟩] } }

/-- `MF_STEP` (R314). Not enabled (R110): not taken. -/
def execMfStep (s : State) : Host.Outcome State Fault Refusal :=
  match s.fifo.l12 with
  | [] => .next s
  | it :: rest =>
    if mfEnabled s then .next (mfProcess it { s with fifo := { s.fifo with l12 := rest } }) else .next s

end Sys2Proof.Machine
end

