-- ==== Sys2Proof/Machine/Correlator.lean ====
section
/-! DEFINITION. Machine/Correlator.lean: pl_header_correlator, unit 3 (R508 to R512): the header test and the header
decode, over the window `PLS.W`. -/

namespace Sys2Proof.Machine

/-- Symbol `k` of the window. -/
def wAt (w : List Cplx) (k : Nat) : Cplx := w.getD k czero

/-- The `q` with `j^q` equal to a value that is 1, j, -1 or -j (R508). -/
def quarterOf (z : Cplx) : Fin 4 :=
  if ceq z ⟨f1, f0⟩ then 0
  else if ceq z ⟨f0, f1⟩ then 1
  else if ceq z ⟨fneg f1, f0⟩ then 2
  else 3

/-- `q(k)` of R508, from the reference of PLS value 0. -/
def headerQ (c : Cfg) (k : Nat) : Fin 4 :=
  quarterOf (cscale fHalf (cmul (href c 0#7 k) (conj (href c 0#7 (k - 1)))))

/-- The raw differential product of window symbols `k` and `k - 1`. -/
def diffRaw (w : List Cplx) (k : Nat) : Cplx := cmul (wAt w k) (conj (wAt w (k - 1)))

/-- `dlt(k)` (R508). -/
def dlt (c : Cfg) (w : List Cplx) (k : Nat) : Cplx := rotq (diffRaw w k) (rotInv (headerQ c k))

/-- The SOF product positions 1 to 25 (R508). -/
def sofPositions : List Nat := (List.range 25).map (fun k => k + 1)
/-- The PLSC pair product positions 27, 29, ..., 89 (R508). -/
def plscPositions : List Nat := (List.range 32).map (fun i => 27 + 2 * i)

/-- `Cs` (R508). -/
def corrSof (c : Cfg) (w : List Cplx) : Cplx := csum (sofPositions.map (dlt c w))
/-- `Cp` (R508). -/
def corrPlsc (c : Cfg) (w : List Cplx) : Cplx := csum (plscPositions.map (dlt c w))
/-- `M` (R508). -/
def corrM (c : Cfg) (w : List Cplx) : F32 := fadd (cabs (corrSof c w)) (cabs (corrPlsc c w))
/-- The energy term of product position `k` (R508). -/
def energyAt (w : List Cplx) (k : Nat) : F32 := fmul fHalf (fadd (cnorm2 (wAt w k)) (cnorm2 (wAt w (k - 1))))
/-- `E` (R508): the sum over `K`, the SOF positions and then the PLSC positions. -/
def corrE (w : List Cplx) : F32 := fsum ((sofPositions ++ plscPositions).map (energyAt w))

/-- `hit` (R509). -/
def headerHit (c : Cfg) (w : List Cplx) : Bool := flt f0 (corrE w) && flt (fmul c.corrThresh (corrE w)) (corrM c w)
/-- `ratio` (R509). -/
def headerRatio (c : Cfg) (w : List Cplx) : F32 := if flt f0 (corrE w) then fdiv (corrM c w) (corrE w) else f0

/-- `HDR_TEST()` (R509): `CORR_LAST` takes the ratio; the result `hit` is kept for the caller. -/
def hdrTest (s : State) : State :=
  { s with
    pls := { s.pls with hit := headerHit s.act.cfg s.pls.w }
    live := { s.live with corrLast := headerRatio s.act.cfg s.pls.w } }

/-! The decode. -/

/-- `fh` (R510). -/
def headerFreq (c : Cfg) (w : List Cplx) : F32 := argT (corrSof c w)

/-- The derotated symbol `w[k]` (R510). -/
def derot (fh : F32) (w : List Cplx) (k : Nat) : Cplx :=
  cmul (wAt w k) (cisT (fneg (fmul fh (fsub (i2f k) f12h))))

/-- `phi0` (R511). -/
def headerPhase (c : Cfg) (fh : F32) (w : List Cplx) : F32 :=
  argT (csum ((List.range 26).map (fun k => cmul (derot fh w k) (conj (href c 0#7 k)))))

/-- `abit[k]` (R511). -/
def headerABit (c : Cfg) (fh phi0 : F32) (w : List Cplx) (k : Nat) : Bool :=
  let v := cmul (derot fh w k) (cisT (fneg phi0))
  flt (fadd (fmul v.re (axis c k).re) (fmul v.im (axis c k).im)) f0

/-- The number whose bits, most significant first, are a list. -/
def bitsMsb (l : List Bool) : Nat := l.foldl (fun acc b => 2 * acc + b.toNat) 0

/-- `word` (R511). -/
def headerWord (c : Cfg) (w : List Cplx) : BitVec 64 :=
  let fh := headerFreq c w
  let phi0 := headerPhase c fh w
  BitVec.ofNat 64 (bitsMsb ((List.range 64).map (fun m => headerABit c fh phi0 w (26 + m))))

/-- Number of one bits of a 64-bit word. -/
def popcount64 (v : BitVec 64) : Nat := (List.range 64).foldl (fun acc k => acc + (v.getLsbD k).toNat) 0

/-- `dist(p)` (R512). -/
def codeDist (word : BitVec 64) (p : BitVec 7) : Nat := popcount64 (word ^^^ plscCode p)

/-- The PLS value of least distance among `0..k`, the smallest on a tie (R512). -/
def nearestUpTo (word : BitVec 64) : Nat → BitVec 7
  | 0 => 0#7
  | k + 1 =>
    let best := nearestUpTo word k
    if codeDist word (BitVec.ofNat 7 (k + 1)) < codeDist word best then BitVec.ofNat 7 (k + 1) else best

/-- `dec.pls` (R512). -/
def nearestPls (word : BitVec 64) : BitVec 7 := nearestUpTo word 127

/-- The decision of R512 for a hard-decided word. -/
def decideWord (c : Cfg) (word : BitVec 64) : Dec :=
  let p := nearestPls word
  { pls := p
    dist := codeDist word p
    ok := decide (codeDist word p ≤ c.plscMaxDist.toNat) && supported p }

/-- `DECODE()` (R510 to R512): `LAST_PLS` takes the value and its distance; the result `dec` is kept for the caller. -/
def hdrDecode (s : State) : State :=
  let d := decideWord s.act.cfg (headerWord s.act.cfg s.pls.w)
  { s with
    pls := { s.pls with dec := d }
    live := { s.live with lastPls := d.pls, lastDist := BitVec.ofNat 7 d.dist } }

/-- `HDR_TEST` as an operation of its own (R509), when PLS may run (R110). -/
def execHdrTest (s : State) : Host.Outcome State Fault Refusal := if plsReady s then .next (hdrTest s) else .next s

/-- `HDR_DECODE` as an operation of its own (R510 to R512), when PLS may run (R110). -/
def execHdrDecode (s : State) : Host.Outcome State Fault Refusal := if plsReady s then .next (hdrDecode s) else .next s

end Sys2Proof.Machine
end

