-- ==== Sys2Proof/Machine/PlSync.lean ====
section
/-! DEFINITION. Machine/PlSync.lean: frame_boundary_detector, unit 4 (R520 to R537): the PLS process step. -/

namespace Sys2Proof.Machine

/-- `LAST_HDR(sym0, smp0)` (R528). -/
def lastHdr (sym0 smp0 : Idx) (s : State) : State :=
  { s with live := { s.live with lastHdrSym := sym0, lastHdrSmp := smp0 } }

/-- `ENTER_SEARCH()` (R529). -/
def enterSearch (s : State) : State :=
  irqSet .lockLost
    { s with
      pls := { s.pls with
        state := .searching
        w := List.replicate 90 czero
        wsmp := List.replicate 90 0#64
        fill := 0
        pend := none
        cnt := 0
        curPls := 0#7
        curLen := 0
        miss := 0#8
        mm := 0#8
        fwd := false
        epoch := s.pls.epoch + 1#32 }
      live := { s.live with frameLen := 0#16 }
      cnt := { s.cnt with lossCnt := s.cnt.lossCnt + 1#32 } }

/-- `ENTER_SEARCH()` unless already searching. -/
def leaveLock (s : State) : State := if s.pls.state = .searching then s else enterSearch s

/-- The host's request (R530). -/
def hostForce (s : State) : State :=
  if s.pls.force then leaveLock { s with pls := { s.pls with force := false } } else s

/-- The carrier recovery's request (R530): acts only in the epoch it names. -/
def carrierForce (s : State) : State :=
  if s.pls.cforce then
    if s.pls.cforceEp = s.pls.epoch then leaveLock { s with pls := { s.pls with cforce := false } }
    else { s with pls := { s.pls with cforce := false } }
  else s

/-- `FORCE_CHECK()` (R530). -/
def forceCheck (s : State) : State := carrierForce (hostForce s)

/-- `SLIDE(y, smp)` (R522). -/
def slide (y : Cplx) (smp : Idx) (s : State) : State :=
  { s with pls := { s.pls with
      w := s.pls.w.drop 1 ++ [y]
      wsmp := s.pls.wsmp.drop 1 ++ [smp]
      fill := min (s.pls.fill + 1) 90 } }

/-- `START_FRAME(p)` (R532, R536, R537). -/
def startFrame (p : BitVec 7) (s : State) : State :=
  if modcodOf p = 0 then { s with pls := { s.pls with fwd := false } }
  else if plsFilter s.act.cfg
      && (modcodOf p != s.act.cfg.modcod.toNat || isShort p != s.act.cfg.frameSize.getLsbD 0) then
    dropFrame { s with pls := { s.pls with fwd := false } }
  else { s with pls := { s.pls with fwd := true, fid := s.pls.fid + 1#32 } }

/-- `EMIT(z, smp, pos)` (R533). -/
def emit (z : Cplx) (smp : Idx) (pos : Nat) (s : State) : State :=
  { s with pls := { s.pls with outq := s.pls.outq ++ [⟨z, smp, s.pls.epoch, s.pls.fid, s.pls.curPls, pos⟩] } }

/-- The 90 header items `EMIT(W[k], Wsmp[k], k)`, `k = 0..89` (R525, R527). -/
def emitHeader (w : List Cplx) (wsmp : List Idx) (s : State) : State :=
  (List.range 90).foldl (fun t k => emit (wAt w k) (wsmp.getD k 0#64) k t) s

/-- `SEARCH_STEP(idx)` (R523). -/
def searchStep (idx : Idx) (s : State) : State :=
  if s.pls.fill = 90 then
    let t := hdrTest s
    if t.pls.hit then
      let u := hdrDecode t
      { u with pls := { u.pls with
          pend := some ⟨u.pls.w, u.pls.wsmp, idx - 89#64, u.pls.dec⟩
          state := .headerFound } }
    else t
  else s

/-- The lock of R525: what `CONFIRM_STEP` does with a header whose decode is accepted, up to `START_FRAME`. -/
def enterLock (d : Pend) (s : State) : State :=
  let p := d.dec.pls
  startFrame p
    (lastHdr d.sym0 (d.wsmp.getD 0 0#64)
      (irqSet .lock
        { s with
          pls := { s.pls with
            state := .locked
            curPls := p
            curLen := frameLen p
            cnt := frameLen p - 1
            miss := 0#8
            mm := 0#8 }
          live := { s.live with frameLen := BitVec.ofNat 16 (frameLen p) }
          cnt := { s.cnt with acqCnt := s.cnt.acqCnt + 1#32 } }))

/-- `PLS.pend <- empty`. -/
def clearPend (s : State) : State := { s with pls := { s.pls with pend := none } }

/-- `CONFIRM_STEP(y, smp, idx)` (R525). An empty `pend` cannot occur in HEADER_FOUND and is a false alarm. -/
def confirmStep (y : Cplx) (smp idx : Idx) (s : State) : State :=
  match s.pls.pend with
  | none => searchStep idx { s with pls := { s.pls with state := .searching } }
  | some d =>
    if d.dec.ok then
      let t := enterLock d s
      clearPend (if t.pls.fwd then emit y smp 90 (emitHeader d.w d.wsmp t) else t)
    else searchStep idx { s with pls := { s.pls with state := .searching, pend := none } }

/-- An 8-bit count that a success clears and a failure increments, saturating at 255 (R65, R527). -/
def failCount (good : Bool) (n : BitVec 8) : BitVec 8 :=
  if good then 0#8 else if n = 255#8 then 255#8 else n + 1#8

/-- The test, the decode and the two counts of `CHECK()` (R527). -/
def checkHeader (s : State) : State :=
  let t := hdrDecode (hdrTest s)
  { t with pls := { t.pls with miss := failCount t.pls.hit t.pls.miss, mm := failCount t.pls.dec.ok t.pls.mm } }

/-- The loss conditions of R527. -/
def lockIsLost (s : State) : Bool :=
  decide (s.act.cfg.lockLossN.toNat ≤ s.pls.miss.toNat) || decide (s.act.cfg.plscMmN.toNat ≤ s.pls.mm.toNat)

/-- The PLS value the next frame is tracked with: the flywheel keeps the old one on a failed decode (R527). -/
def trackedPls (s : State) : BitVec 7 := if s.pls.dec.ok then s.pls.dec.pls else s.pls.curPls

/-- The next frame's length becomes the tracked one (R527). -/
def trackFrame (p : BitVec 7) (s : State) : State :=
  { s with
    pls := { s.pls with curPls := p, curLen := frameLen p, cnt := frameLen p }
    live := { s.live with frameLen := BitVec.ofNat 16 (frameLen p) } }

/-- The accepted header of R527. -/
def acceptHeader (p : BitVec 7) (idx : Idx) (s : State) : State :=
  let t := startFrame p (lastHdr (idx - 89#64) (s.pls.wsmp.getD 0 0#64) s)
  if t.pls.fwd then emitHeader t.pls.w t.pls.wsmp t else t

/-- The failed check that keeps lock (R527): the frame is tracked and, unless it is a dummy, dropped. -/
def failHeader (p : BitVec 7) (s : State) : State :=
  let t := { s with pls := { s.pls with fwd := false } }
  if modcodOf p = 0 then t else dropFrame t

/-- `CHECK()` (R527). -/
def check (idx : Idx) (s : State) : State :=
  let t := checkHeader s
  if lockIsLost t then enterSearch t
  else
    let p := trackedPls t
    let u := trackFrame p t
    if t.pls.hit && t.pls.dec.ok then acceptHeader p idx u else failHeader p u

/-- `TRACK_STEP(y, smp)` (R526). -/
def trackStep (y : Cplx) (smp idx : Idx) (s : State) : State :=
  let cnt := s.pls.cnt - 1
  let t := { s with pls := { s.pls with cnt := cnt } }
  if 90 ≤ cnt then (if t.pls.fwd then emit y smp (t.pls.curLen + 89 - cnt) t else t)
  else if cnt = 0 then check idx t
  else t

/-- The case of R521 on the synchroniser's state. -/
def plsCase (it : Item34) (idx : Idx) (s : State) : State :=
  match s.pls.state with
  | .searching => searchStep idx s
  | .headerFound => confirmStep it.y it.smp idx s
  | .locked => trackStep it.y it.smp idx s

/-- `SYMBOL_IDX <- SYMBOL_IDX + 1` (R521). -/
def countSymbol (s : State) : State := { s with pls := { s.pls with symbolIdx := s.pls.symbolIdx + 1#64 } }

/-- `PLS_STEP(y, smp)` on an item already taken from `L34` (R521). -/
def plsProcess (it : Item34) (s : State) : State :=
  let t := forceCheck s
  plsCase it t.pls.symbolIdx (slide it.y it.smp (countSymbol t))

/-- `PLS_STEP` (R521). Not enabled (R110): not taken. -/
def execPlsStep (s : State) : Host.Outcome State Fault Refusal :=
  match s.fifo.l34 with
  | [] => .next s
  | it :: rest =>
    if plsEnabled s then .next (plsProcess it { s with fifo := { s.fifo with l34 := rest } }) else .next s

end Sys2Proof.Machine
end

