-- ==== Sys2Proof/Machine/Timing.lean ====
section
/-! DEFINITION. Machine/Timing.lean: stage 3 symbol_timing_recovery_interpolator (R402 to R409). -/

namespace Sys2Proof.Machine

/-- The branch a fractional position selects, `min(floor_i(fmul(mu, i2f(N))), N - 1)` (R409). R409 gives no branch for a position
that is not finite: the floor is then free, and a negative one selects branch 0 (notes/assumptions/25.md). -/
def branchOf (n : Nat) (mu : F32) : Nat := (min (floorI (fmul mu (i2f n))) ((n : Int) - 1)).toNat

/-- `interp(Y, mu)` (R409). -/
def interp (n : Nat) (y : List Cplx) (mu : F32) : Cplx := y.getD (branchOf n mu) czero

/-- `MIDPOINT(Y)` (R403). -/
def midpoint (y : List Cplx) (s : State) : State :=
  { s with str := { s.str with yMid := interp s.act.n y s.str.muM, haveMid := true, midPending := false } }

/-- The Gardner error `Re(conj(y_mid) * (y_prev - y))` (R404). -/
def gardner (yPrev yMid y : Cplx) : F32 :=
  fadd (fmul yMid.re (csub yPrev y).re) (fmul yMid.im (csub yPrev y).im)

/-- `e` of R404 for the strobe interpolant `y`. -/
def timingError (t : Str) (y : Cplx) : F32 := if t.havePrev && t.haveMid then gardner t.yPrev t.yMid y else f0

/-- `vi0` of R405. -/
def loopIntRaw (a : Act) (vi e : F32) : F32 := fadd vi (fmul a.ki e)
/-- `STR.vi` of R405. -/
def loopInt (a : Act) (vi e : F32) : F32 := clampf (loopIntRaw a vi e) (fneg a.cfg.strMaxDev) a.cfg.strMaxDev
/-- `v0` of R405. -/
def loopOutRaw (a : Act) (vi e : F32) : F32 := fadd (fmul a.kp e) (loopInt a vi e)
/-- `v` of R405. -/
def loopOut (a : Act) (vi e : F32) : F32 := clampf (loopOutRaw a vi e) (fneg a.cfg.strMaxDev) a.cfg.strMaxDev
/-- Whether a clamp of R405 acts. -/
def loopClips (a : Act) (vi e : F32) : Bool :=
  loopInt a vi e != loopIntRaw a vi e || loopOut a vi e != loopOutRaw a vi e

/-- Whole part of a position, the items until its event (R406). -/
def posCount (p : F32) : Nat := (floorI p).toNat
/-- The items until the next strobe, at least 1: R406 gives the floor and states the bound. Under a legal configuration the floor
of a finite position has it; the bound limits the free floor of a position that is not finite (notes/assumptions/12.md). -/
def strobeCount (p : F32) : Nat := max 1 (posCount p)
/-- Fractional part of a position (R406). -/
def posFrac (p : F32) : F32 := fsub p (i2f (floorI p))

/-- `STROBE(Y, smp)` (R404 to R407). -/
def strobe (y : List Cplx) (smp : Idx) (s : State) : State :=
  let t := s.str
  let yn := interp s.act.n y t.muS
  let e := timingError t yn
  let vi := loopInt s.act t.vi e
  let delta := fadd s.act.cfg.sps (loopOut s.act t.vi e)
  let pm := fadd t.muS (fmul delta fHalf)
  let ps := fadd t.muS delta
  raiseNumIf (loopClips s.act t.vi e) .str
    { s with
      str :=
        { cS := strobeCount ps
          muS := posFrac ps
          cM := posCount pm
          muM := posFrac pm
          midPending := true
          haveMid := false
          havePrev := true
          yPrev := yn
          yMid := t.yMid
          vi := vi
          delta := delta
          eLast := e
          outq := t.outq ++ [⟨yn, smp⟩] }
      live := { s.live with strErrCur := e, strPeriodCur := delta, strMuCur := posFrac ps } }

/-- The event loop of R402, over at most `k` events: the midpoint first, then the strobe. Three always suffice: a strobe leaves
`c_s >= 1`, so one item holds at most a midpoint, a strobe and the strobe's own midpoint. -/
def strLoop (y : List Cplx) (smp : Idx) : Nat → State → State
  | 0, s => s
  | k + 1, s =>
    if s.str.midPending && s.str.cM == 0 then strLoop y smp k (midpoint y s)
    else if s.str.cS == 0 then strLoop y smp k (strobe y smp s)
    else s

/-- The two counters step to the next item (R402). -/
def strAdvance (s : State) : State :=
  { s with str := { s.str with
      cS := s.str.cS - 1
      cM := if s.str.midPending then s.str.cM - 1 else s.str.cM } }

/-- `STR_STEP(Y, smp)` on an item already taken from `L23`: at most three events fall in it, of which one strobe (R402). -/
def strProcess (it : Item23) (s : State) : State := strAdvance (strLoop it.y it.smp 3 s)

/-- `STR_STEP` (R402). Not enabled (R110): not taken. -/
def execStrStep (s : State) : Host.Outcome State Fault Refusal :=
  match s.fifo.l23 with
  | [] => .next s
  | it :: rest =>
    if strEnabled s then .next (strProcess it { s with fifo := { s.fifo with l23 := rest } }) else .next s

end Sys2Proof.Machine
end

