-- ==== Sys2Proof/Machine/Dispatch.lean ====
section
/-! DEFINITION. Machine/Dispatch.lean: one arm per row of the opcode table, each one call of its meaning. -/

namespace Sys2Proof.Machine

def exec (i : Instr) (s : State) : Host.Outcome State Fault Refusal :=
  match i with
  | .nop => Sys2Proof.Machine.execNop s
  | .commit => Sys2Proof.Machine.execCommit s
  | .start => Sys2Proof.Machine.execStart s
  | .stop => Sys2Proof.Machine.execStop s
  | .softReset => Sys2Proof.Machine.execSoftReset s
  | .forceSearch => Sys2Proof.Machine.execForceSearch s
  | .clearCounters => Sys2Proof.Machine.execClearCounters s
  | .reserved w => Sys2Proof.Machine.execReserved w s
  | .csrRead off size => Sys2Proof.Machine.execCsrRead off size s
  | .csrWrite off size wdata => Sys2Proof.Machine.execCsrWrite off size wdata s
  | .inBeat x y => Sys2Proof.Machine.execInBeat x y s
  | .outBeat => Sys2Proof.Machine.execOutBeat s
  | .agcStep => Sys2Proof.Machine.execAgcStep s
  | .mfStep => Sys2Proof.Machine.execMfStep s
  | .strStep => Sys2Proof.Machine.execStrStep s
  | .hdrTest => Sys2Proof.Machine.execHdrTest s
  | .plsStep => Sys2Proof.Machine.execPlsStep s
  | .freqUpdate => Sys2Proof.Machine.execFreqUpdate s
  | .mix z pos => Sys2Proof.Machine.execMix z pos s
  | .phaseRef => Sys2Proof.Machine.execPhaseRef s
  | .pilotSymbol blk o z => Sys2Proof.Machine.execPilotSymbol blk o z s
  | .dscStep => Sys2Proof.Machine.execDscStep s
  | .hdrDecode => Sys2Proof.Machine.execHdrDecode s

end Sys2Proof.Machine
end

