-- ==== Sys2Proof/Machine/Agents.lean ====
section
/-! DEFINITION. Machine/Agents.lean: one agent's step (R110): a packet is decoded and executed; the CPR process step, the
drain steps and power-on reset are taken directly. -/

namespace Sys2Proof.Machine

/-- The step of an agent. A packet that decodes to no operation is refused (safe). -/
def agentStep (a : Action) (s : State) : Host.Outcome State Fault Refusal :=
  match a with
  | .present p =>
    match decode p with
    | .ok i => exec i s
    | .error why => .refused (.undecodable why)
  | .cprStep => .next (cprStep s)
  | .drain g => .next (drainStep g s)
  | .powerOn => .next (powerOnReset s)

/-- The next step of the schedule: the first action of the agenda is taken off it and runs; with nothing scheduled no agent
acts and nothing changes. -/
def runAgenda (s : State) : Host.Outcome State Fault Refusal :=
  match s.agenda with
  | [] => .next s
  | a :: rest => agentStep a { s with agenda := rest }

/-- The agenda with a row's packet presented next. -/
def agendaWith (nbits w : Nat) (l : List Action) : List Action :=
  match tablePacket nbits w with
  | none => l
  | some p => .present p :: l

end Sys2Proof.Machine
end

