-- ==== Sys2Proof/Machine/Step.lean ====
section
/-! DEFINITION. Machine/Step.lean: one step of the machine, and where it fetches its next operation. -/

namespace Sys2Proof.Machine

/-- One step: the next agent of the agenda acts (R110; notes/assumptions/1.md). -/
def step (s : State) : Host.Outcome State Fault Refusal := runAgenda s

/-- `s` with the instruction of a table row presented as the very next action (fixed name of the host): the agenda is where
`step` fetches. Nothing else changes. -/
def State.withFetchWord (s : State) (nbits w : Nat) : State := { s with agenda := agendaWith nbits w s.agenda }

end Sys2Proof.Machine
end

