-- ==== Sys2Proof/Safety.lean ====
section
/-! DEFINITION. Safety.lean: what counts as a safe run, in the terms the obligations use: the invariants of the block's
state, the value of a binary32 word, the bits a register has, and the composition of two steps. -/

namespace Sys2Proof.Machine

/-! Vocabulary. -/

/-- The rational number a finite binary32 word stands for (R12). -/
def fval (a : F32) : ℚ := (smant a : ℚ) * (2 : ℚ) ^ expo a

/-- ACC_CIS of R16: each component of `cis_t` of a finite angle lies within 2^-22 of the true cosine or sine. A premise for a
claim that needs it (notes/assumptions/4.md). -/
def CisAccurate : Prop :=
  ∀ a : F32, isfinite a = true →
    |(fval (cisT a).re : ℝ) - Real.cos (2 * Real.pi * (fval a : ℝ))| ≤ 2⁻¹ ^ 22
      ∧ |(fval (cisT a).im : ℝ) - Real.sin (2 * Real.pi * (fval a : ℝ))| ≤ 2⁻¹ ^ 22

/-- ACC_ARG of R16: `arg_t` of a finite value other than 0 lies within 2^-20 turn of a true argument, in turns. A premise for a
claim that needs it (notes/assumptions/4.md). -/
def ArgAccurate : Prop :=
  ∀ z : Cplx, isfinite z.re = true → isfinite z.im = true → ¬ (fval z.re = 0 ∧ fval z.im = 0) →
    ∃ k : ℤ, |(fval (argT z) : ℝ) - Complex.arg ⟨(fval z.re : ℝ), (fval z.im : ℝ)⟩ / (2 * Real.pi) - k| ≤ 2⁻¹ ^ 20

/-- `r` is the number `x` rounded to binary32 as IEEE 754 says (R13): to the nearest finite value, a tie to the even encoding; from
the midpoint above the greatest finite value on, `2^128 - 2^103`, to the infinity of its sign. -/
structure RoundsTo (r : F32) (x : ℝ) : Prop where
  finite : |x| < 2 ^ 128 - 2 ^ 103 → isfinite r = true
  above : 2 ^ 128 - 2 ^ 103 ≤ x → r = 0x7F800000#32
  below : x ≤ -(2 ^ 128 - 2 ^ 103) → r = 0xFF800000#32
  nearest : isfinite r = true → ∀ c : F32, isfinite c = true → |(fval r : ℝ) - x| ≤ |(fval c : ℝ) - x|
  even : isfinite r = true → ∀ c : F32, isfinite c = true → |(fval r : ℝ) - x| = |(fval c : ℝ) - x| →
    fval c = fval r ∨ r.toNat % 2 = 0

/-- The ports after the response to a write, whose `rdata` is free (notes/assumptions/24.md). -/
def written (okay : Bool) (p : Port) : Port :=
  { p with bus := ⟨okay, Config.writeRdata p.writes⟩, writes := p.writes + 1 }

/-- Both components are finite and within `±SAT` (R17). -/
def bounded (y : Cplx) : Prop :=
  fle 0xC7800000#32 y.re = true ∧ fle y.re 0x47800000#32 = true ∧ fle 0xC7800000#32 y.im = true ∧ fle y.im 0x47800000#32 = true

/-- The bits of a register that are fields; the others are reserved (R32, R37 to R49). -/
def fieldMask : Csr → BitVec 32
  | .status => 0x000000FF#32
  | .cfgErr => 0x0001FFFF#32
  | .cmdErrInfo => 0x000003FF#32
  | .irqStatus => 0x000003FF#32
  | .irqEnable => 0x000003FF#32
  | .numEvt => 0x000003FF#32
  | .lastPls => 0x00007F7F#32
  | .frameLen => 0x0000FFFF#32
  | .tapCount => 0x0001FFFF#32
  | .tapIndex => 0x0001FFFF#32
  | .rrcDelay => 0x000000FF#32
  | .rrcNfilts => 0x000003FF#32
  | .modcod => 0x0000001F#32
  | .frameSize => 0x00000001#32
  | .goldCode => 0x0003FFFF#32
  | .plFreqEstPeriod => 0x0000FFFF#32
  | .syncCtrl => 0x00000003#32
  | .lockLossN => 0x000000FF#32
  | .plscMmN => 0x000000FF#32
  | .plscMaxDist => 0x0000003F#32
  | _ => 0xFFFFFFFF#32

/-- One step after another: `f` runs from the state `o` left. -/
def thenDo (o : Host.Outcome State Fault Refusal) (f : State → Host.Outcome State Fault Refusal) :
    Host.Outcome State Fault Refusal :=
  match o with
  | .next s => f s
  | .fault r => .fault r
  | .refused r => .refused r

/-- The process steps of the unit groups that the `FORCE` back-channel does not join (R112, R113). -/
def unitSteps : List Instr := [.agcStep, .mfStep, .strStep, .plsStep, .dscStep]

/-- The instructions that are unit operations, against host accesses, beats and commands (R41, R172). -/
def isUnitOp : Instr → Bool
  | .agcStep => true
  | .mfStep => true
  | .strStep => true
  | .hdrTest => true
  | .plsStep => true
  | .freqUpdate => true
  | .mix _ _ => true
  | .phaseRef => true
  | .pilotSymbol _ _ _ => true
  | .dscStep => true
  | .hdrDecode => true
  | _ => false

/-- The instruction an action presents. -/
def presents (a : Action) (i : Instr) : Prop := ∃ p, a = .present p ∧ decode p = .ok i

/-- Bit `k` of `IRQ_STATUS` goes from 0 to 1. -/
def raises (k : Nat) (s t : State) : Prop := s.ctl.irqStatus.getLsbD k = false ∧ t.ctl.irqStatus.getLsbD k = true

/-- No force request acts at the synchroniser's next step (R530): it is searching already, or the host asks for nothing and
the carrier recovery's request, if any, names another epoch. -/
def quiet (s : State) : Prop :=
  s.pls.state = .searching ∨ (s.pls.force = false ∧ (s.pls.cforce = true → s.pls.cforceEp ≠ s.pls.epoch))

/-- A force request acts at the synchroniser's next step (R530). -/
def forced (s : State) : Prop :=
  s.pls.state ≠ .searching ∧ (s.pls.force = true ∨ (s.pls.cforce = true ∧ s.pls.cforceEp = s.pls.epoch))

/-- The tagged items of a header (R533): symbols `w[0..89]` with their tags, at positions 0 to 89. -/
def headerItems (w : List Cplx) (wsmp : List Idx) (ep fid : BitVec 32) (p : BitVec 7) : List Item45 :=
  (List.range 90).map (fun k => ⟨w.getD k czero, wsmp.getD k 0#64, ep, fid, p, k⟩)

/-- A dummy frame (R537). -/
def isDummy (p : BitVec 7) : Bool := modcodOf p == 0

/-- A frame that `PLS_FILTER` keeps from carrier recovery (R532, R536). -/
def isFiltered (c : Cfg) (p : BitVec 7) : Bool :=
  c.syncCtrl.getLsbD 0 && (modcodOf p != c.modcod.toNat || isShort p != c.frameSize.getLsbD 0)

/-! Invariants. Each says what a group of state items promises between two steps; `Safe` is all of them. -/

/-- The live registers are copies of unit state (R46, R47, R51). -/
structure MirrorInv (s : State) : Prop where
  agcGain : s.live.agcGainCur = s.agc.g
  strPeriod : s.live.strPeriodCur = s.str.delta
  strMu : s.live.strMuCur = s.str.muS
  strErr : s.live.strErrCur = s.str.eLast
  freqEst : s.live.freqEst = s.cpr.fAct
  freqHz : s.live.freqEstHz = 0#32 ∨ s.live.freqEstHz = fmul s.cpr.fAct s.act.cfg.symRate
  frameLength : s.live.frameLen = BitVec.ofNat 16 s.pls.curLen

/-- Control: the units run only under a validated configuration, and only units 0 to 2 report saturation (R37, R222, R803). -/
structure ControlInv (s : State) : Prop where
  runningValid : s.ctl.running = true → s.ctl.cfgValid = true
  validClean : s.ctl.cfgValid = true → s.ctl.cfgErr = 0#17
  validLegal : s.ctl.cfgValid = true → cfgMask s.act.cfg = 0#17
  validDerived : s.ctl.cfgValid = true → s.act = deriveAct s.act.cfg
  numBits : s.ctl.numEvt &&& 0x3F8#10 = 0#10

/-- The bounds of the front end: FIFO depths, staging queues and the delay line (R71, R110, R119). What the delay line holds has the
length R902 gives it, and the elements in use are the `2*Kh + 1` of R63, none while `CFG_VALID` = 0 (notes/assumptions/14.md). -/
structure FrontInv (s : State) : Prop where
  input : s.fifo.fIn.length ≤ Config.depthIn
  l12 : s.fifo.l12.length ≤ Config.depthLink
  l23 : s.fifo.l23.length ≤ Config.depthLink
  l34 : s.fifo.l34.length ≤ Config.depthLink
  l45 : s.fifo.l45.length ≤ Config.depthLink
  l56 : s.fifo.l56.length ≤ Config.depthLink
  agcStaged : s.agc.outq.length ≤ 1
  mfStaged : s.mf.outq.length ≤ 1
  strStaged : s.str.outq.length ≤ 1
  stored : s.mf.x.length = if s.act.l = 0 then 0 else 2 * s.act.kh + 1
  inUse : (delayLine s).length = if s.ctl.cfgValid = true ∧ s.act.l ≠ 0 then 2 * s.act.kh + 1 else 0

/-- Timing recovery (R402 to R412): the active configuration is one COMMIT accepts, every interpolant is saturated, the
integrator lies within `±STR_MAX_DEV`, the period is finite and at least 1, and both fractional positions lie in [0, 1). -/
structure TimingInv (s : State) : Prop where
  legal : cfgMask s.act.cfg = 0#17
  branches : ∀ it ∈ s.fifo.l23 ++ s.mf.outq, ∀ y ∈ it.y, bounded y
  previous : bounded s.str.yPrev
  middle : bounded s.str.yMid
  integrator : fle (fneg s.act.cfg.strMaxDev) s.str.vi = true ∧ fle s.str.vi s.act.cfg.strMaxDev = true
  period : isfinite s.str.delta = true ∧ fle f1 s.str.delta = true
  strobePosition : fle f0 s.str.muS = true ∧ flt s.str.muS f1 = true
  midPosition : fle f0 s.str.muM = true ∧ flt s.str.muM f1 = true

/-- The synchroniser (R65, R110, R520, R522 to R529): window sizes, what `pend` and the tracking registers hold in each
state. -/
structure PlsInv (s : State) : Prop where
  window : s.pls.w.length = 90
  tags : s.pls.wsmp.length = 90
  filled : s.pls.fill ≤ 90
  staged : s.pls.outq.length ≤ 91
  pendState : s.pls.pend.isSome = true ↔ s.pls.state = .headerFound
  held : ∀ d, s.pls.pend = some d →
    d.w.length = 90 ∧ d.wsmp.length = 90 ∧ (d.dec.ok = true → supported d.dec.pls = true)
  tracking : s.pls.state = .locked →
    supported s.pls.curPls = true ∧ s.pls.curLen = frameLen s.pls.curPls ∧ 1 ≤ s.pls.cnt ∧ s.pls.cnt ≤ s.pls.curLen
  idle : s.pls.state ≠ .locked →
    s.pls.cnt = 0 ∧ s.pls.curPls = 0#7 ∧ s.pls.curLen = 0 ∧ s.pls.miss = 0#8 ∧ s.pls.mm = 0#8 ∧ s.pls.fwd = false

/-- The most data symbols `CPR.hold` may hold when the next frame position is `next`, in a frame of `p` pilot blocks (R621):
those since the last reference. -/
def holdBound (p next : Nat) : Nat :=
  if (next - 90) / 1476 < p then min Config.segBuf ((next - 90) % 1476) else 0

/-- Carrier recovery (R66, R110, R621): buffer sizes, and how many symbols wait for the next reference. -/
structure CprInv (s : State) : Prop where
  raw : s.cpr.hraw.length = 90
  derotated : s.cpr.hder.length = 90
  held : s.cpr.hold.length ≤ Config.segBuf
  staged : s.cpr.outq.length ≤ Config.segBuf + 1
  dropped : s.cpr.fr.drop = true → s.cpr.hold = []
  position : s.cpr.fr.valid = true → s.cpr.hold.length ≤ holdBound s.cpr.fr.p s.cpr.fr.next

/-- A complete frame (R721): all `90 * S` data symbols of its PLS value, at least one. -/
def completeFrame (f : Frame) : Prop := f.sym.length = f.count ∧ f.count = dataCount f.pls ∧ 0 < f.count

/-- The emitter (R67, R711, R721, R722): only complete frames reach the output buffer. -/
structure DscInv (s : State) : Prop where
  assembling : s.dsc.cur.valid = true → s.dsc.cur.sym.length = s.dsc.cur.n ∧ s.dsc.cur.count = dataCount s.dsc.cur.pls
  finished : s.dsc.cur.done = true → s.dsc.cur.valid = true ∧ s.dsc.cur.n = s.dsc.cur.count ∧ 0 < s.dsc.cur.count
  buffered : ∀ f ∈ s.dsc.outbuf, completeFrame f
  capacity : s.dsc.outbuf.length ≤ Config.outFrames
  draining : ∀ f rest, s.dsc.outbuf = f :: rest → s.dsc.drain < f.count
  drained : s.dsc.outbuf = [] → s.dsc.drain = 0

/-- A safe state: every invariant holds. A run is safe when each of its states is. -/
structure Safe (s : State) : Prop where
  mirror : MirrorInv s
  control : ControlInv s
  front : FrontInv s
  timing : TimingInv s
  pls : PlsInv s
  cpr : CprInv s
  dsc : DscInv s

end Sys2Proof.Machine
end

