-- ==== Sys2Proof/Certificates/Slice0/Obligations.lean ====
section
/-! DEFINITION. Certificates/Slice0/Obligations.lean: the statements for the provers, each `def Obligations.<Name> : Prop`.
The first line of a docstring says which rule of spec/ a statement formalises; where a clause is the model's own choice, the
docstring names its entry of the assumption log. `exec` never faults and is total, so a result statement reads
`exec i s = .next t` with `t` written out as `{ s with … }`: everything the braces do not name is unchanged. -/

open Sys2Proof
open Sys2Proof.Machine

/-! ## Encoding (30_encoding.md) -/

/-- Decode and encode agree (R140 to R142, R150, R170): no operand bit of an operation is dropped. The layout of the unit
packets is the model's (notes/assumptions/2.md). -/
def Obligations.DecodeInvertsEncode : Prop :=
  ∀ i : Instr, WellFormed i = true → decode (encode i) = .ok i

/-- The decoder answers well-formed operations only (R150, R151). R172 gives unit operations no bit layout: that the decoder
refuses a MIX or PILOT_SYMBOL packet whose operands lie outside the bounds of R520 and R506 is the model's choice
(notes/assumptions/2.md). -/
def Obligations.DecodedIsWellFormed : Prop :=
  ∀ (p : Packet) (i : Instr), decode p = .ok i → WellFormed i = true

/-- The command words of R150's table, two reserved words of R151, the beat layout of R170 and the unit ids of R41 decode to the
operations they stand for. That a unit id stands in the low bits of a packet is the model's layout (notes/assumptions/2.md). -/
def Obligations.TableWordsDecode : Prop :=
  decodeTableWord 32 0x00000000 = some .nop
    ∧ decodeTableWord 32 0x01000000 = some .commit
    ∧ decodeTableWord 32 0x02000000 = some .start
    ∧ decodeTableWord 32 0x03000000 = some .stop
    ∧ decodeTableWord 32 0x04000000 = some .softReset
    ∧ decodeTableWord 32 0x05000000 = some .forceSearch
    ∧ decodeTableWord 32 0x06000000 = some .clearCounters
    ∧ decodeTableWord 32 0x07000000 = some (.reserved 0x07000000#32)
    ∧ decodeTableWord 32 0x02000001 = some (.reserved 0x02000001#32)
    ∧ decodeTableWord 64 0xBF0000003F000000 = some (.inBeat 0x3F000000#32 0xBF000000#32)
    ∧ decodeTableWord 8 0x00 = some .agcStep
    ∧ decodeTableWord 8 0x04 = some .plsStep
    ∧ decodeTableWord 8 0x09 = some .dscStep

/-! ## The step (20_memory.md section 4) -/

/-- A step runs the decoded operation: when the next action of the schedule presents a packet that decodes to `i`, the step is
`exec i` on the state with that action taken off. And no step stops the block (R800, R816): it answers a next state, but for a
packet that is no operation at all, which is refused by name. R110 gives the agents; the agenda and that refusal are the
model's (notes/assumptions/1.md, 2.md). -/
def Obligations.StepRunsPresented : Prop :=
  (∀ (s : State) (p : Packet) (rest : List Action) (i : Instr),
    s.agenda = .present p :: rest → decode p = .ok i → step s = exec i { s with agenda := rest })
    ∧ (∀ (s : State) (a : Action) (rest : List Action), s.agenda = a :: rest →
      step s = agentStep a { s with agenda := rest })
    ∧ (∀ s : State, s.agenda = [] → step s = .next s)
    ∧ ∀ s : State,
      (∃ t, step s = .next t)
        ∨ ∃ p rest why, s.agenda = .present p :: rest ∧ decode p = .error why ∧ step s = .refused (.undecodable why)

/-- R110, R722: a drain step moves the oldest staged item when the block runs and the output FIFO has room, and otherwise
nothing happens (that a step not enabled changes nothing is the model's choice,
notes/assumptions/16.md); the DSC drain moves a completed frame into the output buffer, counted and reported, when the buffer has
room. -/
def Obligations.DrainSteps : Prop :=
  ∀ s : State,
    (∀ it rest, s.agc.outq = it :: rest →
      agentStep (.drain .agc) s = .next (if s.ctl.running = true ∧ s.fifo.l12.length < Config.depthLink then
        { s with agc := { s.agc with outq := rest }, fifo := { s.fifo with l12 := s.fifo.l12 ++ [it] } } else s))
    ∧ (∀ it rest, s.mf.outq = it :: rest →
      agentStep (.drain .mf) s = .next (if s.ctl.running = true ∧ s.fifo.l23.length < Config.depthLink then
        { s with mf := { s.mf with outq := rest }, fifo := { s.fifo with l23 := s.fifo.l23 ++ [it] } } else s))
    ∧ (∀ it rest, s.str.outq = it :: rest →
      agentStep (.drain .str) s = .next (if s.ctl.running = true ∧ s.fifo.l34.length < Config.depthLink then
        { s with str := { s.str with outq := rest }, fifo := { s.fifo with l34 := s.fifo.l34 ++ [it] } } else s))
    ∧ (∀ it rest, s.pls.outq = it :: rest →
      agentStep (.drain .pls) s = .next (if s.ctl.running = true ∧ s.fifo.l45.length < Config.depthLink then
        { s with pls := { s.pls with outq := rest }, fifo := { s.fifo with l45 := s.fifo.l45 ++ [it] } } else s))
    ∧ (∀ it rest, s.cpr.outq = it :: rest →
      agentStep (.drain .cpr) s = .next (if s.ctl.running = true ∧ s.fifo.l56.length < Config.depthLink then
        { s with cpr := { s.cpr with outq := rest }, fifo := { s.fifo with l56 := s.fifo.l56 ++ [it] } } else s))
    ∧ (s.agc.outq = [] → agentStep (.drain .agc) s = .next s)
    ∧ (s.mf.outq = [] → agentStep (.drain .mf) s = .next s)
    ∧ (s.str.outq = [] → agentStep (.drain .str) s = .next s)
    ∧ (s.pls.outq = [] → agentStep (.drain .pls) s = .next s)
    ∧ (s.cpr.outq = [] → agentStep (.drain .cpr) s = .next s)
    ∧ agentStep (.drain .dsc) s = .next
      (if s.ctl.running = true ∧ s.dsc.cur.done = true ∧ s.dsc.outbuf.length < Config.outFrames then
        { s with
          dsc := { s.dsc with
            outbuf := s.dsc.outbuf ++ [⟨s.dsc.cur.pls, s.dsc.cur.count, s.dsc.cur.sym⟩]
            cur := State.reset.dsc.cur }
          cnt := { s.cnt with frameCnt := s.cnt.frameCnt + 1#32 }
          ctl := { s.ctl with irqStatus := s.ctl.irqStatus ||| 0x004#10 } }
      else s)

/-- R112, R113: the process steps of two unit groups that the back-channel does not join give the same state in either
order. CPR commutes with every one but PLS, the one group its `FORCE` request reaches. A step that is not enabled changes nothing,
by the model's choice (notes/assumptions/16.md). -/
def Obligations.UnitStepsCommute : Prop :=
  (∀ (s : State) (i j : Instr), i ∈ unitSteps → j ∈ unitSteps → i ≠ j →
      thenDo (exec i s) (exec j) = thenDo (exec j s) (exec i))
    ∧ ∀ (s : State) (i : Instr), i ∈ unitSteps → i ≠ .plsStep →
      thenDo (exec i s) (agentStep .cprStep) = thenDo (agentStep .cprStep s) (exec i)

/-! ## The CSR bus (40_host_commands.md section 1) -/

/-- R202, R203: an access that is misaligned, not 4 bytes wide or unmapped is answered `ERR`, with 0 when it is a read, sets
`BUS_ERR` and changes nothing else. The `rdata` of a write's answer is free (notes/assumptions/24.md). -/
def Obligations.RefusedAccess : Prop :=
  ∀ (s : State) (off : BitVec 12) (size : Nat) (wdata : BitVec 32),
    size ≠ 4 ∨ off.toNat % 4 ≠ 0 ∨ (∀ r : Csr, csrOffset r ≠ off) →
      let ctl := { s.ctl with irqStatus := s.ctl.irqStatus ||| 0x200#10 }
      exec (.csrRead off size) s = .next { s with ctl := ctl, port := { s.port with bus := ⟨false, 0#32⟩ } }
        ∧ exec (.csrWrite off size wdata) s = .next { s with ctl := ctl, port := written false s.port }

/-- The offset of every register, as section 2 of 10_state.md gives it (R35 to R49). R201: an admitted read is answered `(OKAY,
value)`, with the value the register has at that instant. A `_LO` half latches the upper half of its value, a `_HI` half returns
the latched one, `CMD` reads 0, and nothing else changes. The value of every register: R35, whose two registers also ignore
writes, R37 with R50, R38 to R43 and R45 to R49. R104: a read of a `_LO` half and then of its `_HI` half gives one 64-bit value,
the one at the first read. `TAP_COUNT` shows the low 17 bits of a count the model holds as a natural (notes/assumptions/21.md),
and the `rdata` of a write's answer is free (notes/assumptions/24.md). -/
def Obligations.AdmittedRead : Prop :=
  (∀ r : Csr, csrOffset r = match r with
      | .id => 0x000#12 | .version => 0x004#12 | .cmd => 0x008#12 | .status => 0x00C#12 | .cfgErr => 0x010#12
      | .cmdErrInfo => 0x014#12 | .irqStatus => 0x018#12 | .irqEnable => 0x01C#12 | .numEvt => 0x020#12
      | .sampleCntLo => 0x030#12 | .sampleCntHi => 0x034#12 | .symbolCntLo => 0x038#12 | .symbolCntHi => 0x03C#12
      | .frameCnt => 0x040#12 | .dropCnt => 0x044#12 | .acqCnt => 0x048#12 | .lossCnt => 0x04C#12
      | .pilotFailCnt => 0x050#12 | .agcGain => 0x100#12 | .agcRate => 0x104#12 | .agcRef => 0x108#12 | .agcGmin => 0x10C#12
      | .agcGmax => 0x110#12 | .rrcRolloff => 0x120#12 | .rrcDelay => 0x124#12 | .rrcNfilts => 0x128#12 | .sps => 0x130#12
      | .symRate => 0x134#12 | .strDamping => 0x138#12 | .strLoopBw => 0x13C#12 | .strTedGain => 0x140#12
      | .strMaxDev => 0x144#12 | .modcod => 0x150#12 | .frameSize => 0x154#12 | .goldCode => 0x158#12
      | .plFreqEstPeriod => 0x15C#12 | .syncCtrl => 0x160#12 | .corrThresh => 0x164#12 | .lockLossN => 0x168#12
      | .plscMmN => 0x16C#12 | .plscMaxDist => 0x170#12 | .pilotThresh => 0x174#12 | .lastHdrSymLo => 0x200#12
      | .lastHdrSymHi => 0x204#12 | .lastHdrSmpLo => 0x208#12 | .lastHdrSmpHi => 0x20C#12 | .lastPls => 0x210#12
      | .frameLen => 0x214#12 | .freqEst => 0x218#12 | .freqEstHz => 0x21C#12 | .agcGainCur => 0x220#12
      | .strPeriodCur => 0x224#12 | .strMuCur => 0x228#12 | .strErrCur => 0x22C#12 | .corrLast => 0x230#12
      | .phaseLast => 0x234#12 | .syncCnt => 0x238#12 | .tapIndex => 0x240#12 | .tapData => 0x244#12 | .tapCount => 0x248#12
      | .strKp => 0x24C#12 | .strKi => 0x250#12)
    ∧ (∀ (s : State) (r : Csr),
    exec (.csrRead (csrOffset r) 4) s = .next { s with
      holds :=
        { sampleHi := if r = .sampleCntLo then s.agc.sampleIdx.extractLsb' 32 32 else s.holds.sampleHi
          symbolHi := if r = .symbolCntLo then s.pls.symbolIdx.extractLsb' 32 32 else s.holds.symbolHi
          hdrSymHi := if r = .lastHdrSymLo then s.live.lastHdrSym.extractLsb' 32 32 else s.holds.hdrSymHi
          hdrSmpHi := if r = .lastHdrSmpLo then s.live.lastHdrSmp.extractLsb' 32 32 else s.holds.hdrSmpHi }
      port := { s.port with bus := ⟨true, csrValue s r⟩ } })
    ∧ (∀ s : State,
      csrValue s .cmd = 0#32
        ∧ csrValue s .sampleCntLo = s.agc.sampleIdx.extractLsb' 0 32 ∧ csrValue s .sampleCntHi = s.holds.sampleHi
        ∧ csrValue s .symbolCntLo = s.pls.symbolIdx.extractLsb' 0 32 ∧ csrValue s .symbolCntHi = s.holds.symbolHi
        ∧ csrValue s .lastHdrSymLo = s.live.lastHdrSym.extractLsb' 0 32 ∧ csrValue s .lastHdrSymHi = s.holds.hdrSymHi
        ∧ csrValue s .lastHdrSmpLo = s.live.lastHdrSmp.extractLsb' 0 32 ∧ csrValue s .lastHdrSmpHi = s.holds.hdrSmpHi)
    ∧ (∀ s : State,
      csrValue s .id = 0x44533252#32 ∧ csrValue s .version = 0x00010007#32
        ∧ ∀ w : BitVec 32, exec (.csrWrite 0x000#12 4 w) s = .next { s with port := written true s.port }
          ∧ exec (.csrWrite 0x004#12 4 w) s = .next { s with port := written true s.port })
    ∧ (∀ s : State,
      let v := csrValue s .status
      v.extractLsb' 0 2 = (match s.pls.state with | .searching => 0#2 | .headerFound => 1#2 | .locked => 2#2)
        ∧ v.getLsbD 2 = s.ctl.running
        ∧ v.getLsbD 3 = s.ctl.cfgValid
        ∧ v.getLsbD 4 = (s.ctl.cfgValid && feq s.act.cfg.strLoopBw f0)
        ∧ v.getLsbD 5 = s.cpr.freqValid
        ∧ v.getLsbD 6 = (s.ctl.running && decide (s.fifo.fIn.length < Config.depthIn))
        ∧ v.getLsbD 7 = decide (s.dsc.outbuf ≠ [])
        ∧ v.extractLsb' 8 24 = 0#24)
    ∧ (∀ s : State,
      csrValue s .cfgErr = 0#15 ++ s.ctl.cfgErr
        ∧ (csrValue s .cmdErrInfo).extractLsb' 0 8 = s.ctl.cmdErrOpcode
        ∧ (csrValue s .cmdErrInfo).extractLsb' 8 2 = s.ctl.cmdErrReason
        ∧ (csrValue s .cmdErrInfo).extractLsb' 10 22 = 0#22
        ∧ csrValue s .irqStatus = 0#22 ++ s.ctl.irqStatus
        ∧ csrValue s .irqEnable = 0#22 ++ s.ctl.irqEnable
        ∧ csrValue s .numEvt = 0#22 ++ s.ctl.numEvt
        ∧ csrValue s .frameCnt = s.cnt.frameCnt ∧ csrValue s .dropCnt = s.cnt.dropCnt
        ∧ csrValue s .acqCnt = s.cnt.acqCnt ∧ csrValue s .lossCnt = s.cnt.lossCnt
        ∧ csrValue s .pilotFailCnt = s.cnt.pilotFailCnt)
    ∧ (∀ s : State,
      csrValue s .agcGain = s.shadow.agcGain ∧ csrValue s .agcRate = s.shadow.agcRate ∧ csrValue s .agcRef = s.shadow.agcRef
        ∧ csrValue s .agcGmin = s.shadow.agcGmin ∧ csrValue s .agcGmax = s.shadow.agcGmax
        ∧ csrValue s .rrcRolloff = s.shadow.rrcRolloff ∧ csrValue s .rrcDelay = 0#24 ++ s.shadow.rrcDelay
        ∧ csrValue s .rrcNfilts = 0#22 ++ s.shadow.rrcNfilts ∧ csrValue s .sps = s.shadow.sps
        ∧ csrValue s .symRate = s.shadow.symRate ∧ csrValue s .strDamping = s.shadow.strDamping
        ∧ csrValue s .strLoopBw = s.shadow.strLoopBw ∧ csrValue s .strTedGain = s.shadow.strTedGain
        ∧ csrValue s .strMaxDev = s.shadow.strMaxDev ∧ csrValue s .modcod = 0#27 ++ s.shadow.modcod
        ∧ csrValue s .frameSize = 0#31 ++ s.shadow.frameSize ∧ csrValue s .goldCode = 0#14 ++ s.shadow.goldCode
        ∧ csrValue s .plFreqEstPeriod = 0#16 ++ s.shadow.plFreqEstPeriod
        ∧ csrValue s .syncCtrl = 0#30 ++ s.shadow.syncCtrl ∧ csrValue s .corrThresh = s.shadow.corrThresh
        ∧ csrValue s .lockLossN = 0#24 ++ s.shadow.lockLossN ∧ csrValue s .plscMmN = 0#24 ++ s.shadow.plscMmN
        ∧ csrValue s .plscMaxDist = 0#26 ++ s.shadow.plscMaxDist ∧ csrValue s .pilotThresh = s.shadow.pilotThresh)
    ∧ (∀ s : State,
      (csrValue s .lastPls).extractLsb' 0 7 = s.live.lastPls
        ∧ (csrValue s .lastPls).extractLsb' 8 7 = s.live.lastDist
        ∧ csrValue s .lastPls &&& 0xFFFF8080#32 = 0#32
        ∧ csrValue s .frameLen = 0#16 ++ s.live.frameLen
        ∧ csrValue s .freqEst = s.live.freqEst ∧ csrValue s .freqEstHz = s.live.freqEstHz
        ∧ csrValue s .agcGainCur = s.live.agcGainCur ∧ csrValue s .strPeriodCur = s.live.strPeriodCur
        ∧ csrValue s .strMuCur = s.live.strMuCur ∧ csrValue s .strErrCur = s.live.strErrCur
        ∧ csrValue s .corrLast = s.live.corrLast ∧ csrValue s .phaseLast = s.live.phaseLast
        ∧ (csrValue s .syncCnt).extractLsb' 0 8 = s.pls.miss
        ∧ (csrValue s .syncCnt).extractLsb' 8 8 = s.pls.mm
        ∧ (csrValue s .syncCnt).extractLsb' 16 16 = s.pls.epoch.extractLsb' 0 16
        ∧ csrValue s .tapIndex = 0#15 ++ s.ctl.tapIndex
        ∧ csrValue s .tapData = (if s.ctl.cfgValid = true ∧ s.ctl.tapIndex.toNat < s.act.l then
            s.act.c.getD s.ctl.tapIndex.toNat 0#32 else 0#32)
        ∧ csrValue s .tapCount = (if s.ctl.cfgValid = true then BitVec.ofNat 32 (s.act.l % 2 ^ 17) else 0#32)
        ∧ csrValue s .strKp = (if s.ctl.cfgValid = true then s.act.kp else 0#32)
        ∧ csrValue s .strKi = (if s.ctl.cfgValid = true then s.act.ki else 0#32))
    ∧ ∀ s : State, ∀ q ∈ [(Csr.sampleCntLo, Csr.sampleCntHi, s.agc.sampleIdx), (.symbolCntLo, .symbolCntHi, s.pls.symbolIdx),
      (.lastHdrSymLo, .lastHdrSymHi, s.live.lastHdrSym), (.lastHdrSmpLo, .lastHdrSmpHi, s.live.lastHdrSmp)],
    ∃ t u, exec (.csrRead (csrOffset q.1) 4) s = .next t ∧ exec (.csrRead (csrOffset q.2.1) 4) t = .next u
      ∧ u.port.bus.okay = true ∧ u.port.bus.rdata ++ t.port.bus.rdata = q.2.2

/-- R32, R35 to R49: the access type of every register, and what a write does by it; AdmittedRead gives the offsets. `RO`:
nothing. `RW`: the register takes the write's field bits and no other register, nor any other state, changes (but `TAP_DATA`,
which shows the coefficient `TAP_INDEX` names). `W1C`: a read returns the value, the bits written 1 clear. `WO`: reads return 0.
Reserved bits read 0. The `rdata` of a write's answer is free (notes/assumptions/24.md). -/
def Obligations.AccessTypes : Prop :=
  (∀ r : Csr, csrAccess r =
      if r = .cmd then .wo
      else if r ∈ [Csr.irqStatus, .numEvt] then .w1c
      else if r ∈ [Csr.irqEnable, .tapIndex, .agcGain, .agcRate, .agcRef, .agcGmin, .agcGmax, .rrcRolloff, .rrcDelay, .rrcNfilts,
        .sps, .symRate, .strDamping, .strLoopBw, .strTedGain, .strMaxDev, .modcod, .frameSize, .goldCode, .plFreqEstPeriod,
        .syncCtrl, .corrThresh, .lockLossN, .plscMmN, .plscMaxDist, .pilotThresh] then .rw
      else .ro)
    ∧ (∀ (s : State) (r : Csr) (w : BitVec 32), csrAccess r = .ro →
      exec (.csrWrite (csrOffset r) 4 w) s = .next { s with port := written true s.port })
    ∧ (∀ (s : State) (r : Csr) (w : BitVec 32), csrAccess r = .rw →
      ∃ t, exec (.csrWrite (csrOffset r) 4 w) s = .next t
        ∧ csrValue t r = w &&& fieldMask r
        ∧ (∀ r', r' ≠ r → (r' = .tapData → r ≠ .tapIndex) → csrValue t r' = csrValue s r')
        ∧ t = { s with
            shadow := t.shadow
            ctl := { s.ctl with irqEnable := t.ctl.irqEnable, tapIndex := t.ctl.tapIndex }
            port := written true s.port })
    ∧ (∀ (s : State) (w : BitVec 32),
      exec (.csrWrite 0x018#12 4 w) s = .next { s with
        ctl := { s.ctl with irqStatus := s.ctl.irqStatus &&& ~~~(w.extractLsb' 0 10) }
        port := written true s.port }
      ∧ exec (.csrWrite 0x020#12 4 w) s = .next { s with
        ctl := { s.ctl with numEvt := s.ctl.numEvt &&& ~~~(w.extractLsb' 0 10) }
        port := written true s.port })
    ∧ (∀ s : State,
      (∃ t, exec (.csrRead 0x018#12 4) s = .next t ∧ t.port.bus = ⟨true, 0#22 ++ s.ctl.irqStatus⟩)
        ∧ ∃ t, exec (.csrRead 0x020#12 4) s = .next t ∧ t.port.bus = ⟨true, 0#22 ++ s.ctl.numEvt⟩)
    ∧ (∀ s : State, exec (.csrRead 0x008#12 4) s = .next { s with port := { s.port with bus := ⟨true, 0#32⟩ } })
    ∧ ∀ (s : State) (r : Csr), csrValue s r &&& ~~~fieldMask r = 0#32

/-- R34, R117: no operation but COMMIT and power-on reset changes the active configuration, and COMMIT not while the block
runs. -/
def Obligations.ActiveConfigurationFrozen : Prop :=
  ∀ (s t : State) (a : Action), agentStep a s = .next t → a ≠ .powerOn →
    s.ctl.running = true ∨ ¬ presents a .commit → t.act = s.act

/-- R34: no unit reads a shadow register: a unit operation, a CPR step and a drain step do the same whatever the shadow
configuration holds. -/
def Obligations.UnitsIgnoreShadow : Prop :=
  ∀ (s t : State) (c : Cfg),
    (∀ i, isUnitOp i = true → exec i s = .next t → exec i { s with shadow := c } = .next { t with shadow := c })
      ∧ (∀ a : Action, a = .cprStep ∨ (∃ g, a = .drain g) → agentStep a s = .next t →
        agentStep a { s with shadow := c } = .next { t with shadow := c })

/-! ## Stream ports (R204, R205) -/

/-- R204: an offered beat is taken when the block runs and `F_IN` has room; otherwise the producer keeps it. R205, R171: the
consumer takes the next beat of the oldest complete frame, whatever `RUNNING` holds; with none buffered no beat is offered. The
beat carries I and Q, FIRST, LAST and the PLS value. The ports' latches are the model's (notes/assumptions/3.md). -/
def Obligations.StreamBeatsTaken : Prop :=
  (∀ (s : State) (i q : F32),
    exec (.inBeat i q) s = .next
      (if s.ctl.running = true ∧ s.fifo.fIn.length < Config.depthIn then
        { s with fifo := { s.fifo with fIn := s.fifo.fIn ++ [⟨i, q⟩] }, port := { s.port with inAck := true } }
      else { s with port := { s.port with inAck := false } }))
    ∧ (∀ s : State, s.dsc.outbuf = [] → exec .outBeat s = .next { s with port := { s.port with out := none } })
    ∧ ∀ (s : State) (f : Frame) (rest : List Frame), s.dsc.outbuf = f :: rest →
      ∃ b : OutBeat,
        exec .outBeat s = .next { s with
          dsc := { s.dsc with
            outbuf := if s.dsc.drain + 1 = f.count then rest else s.dsc.outbuf
            drain := if s.dsc.drain + 1 = f.count then 0 else s.dsc.drain + 1 }
          port := { s.port with out := some b } }
        ∧ b.data.extractLsb' 0 32 = (f.sym.getD s.dsc.drain czero).re
        ∧ b.data.extractLsb' 32 32 = (f.sym.getD s.dsc.drain czero).im
        ∧ b.user.getLsbD 0 = decide (s.dsc.drain = 0)
        ∧ b.user.getLsbD 1 = decide (s.dsc.drain + 1 = f.count)
        ∧ b.user.extractLsb' 2 7 = f.pls

/-! ## Commands (40_host_commands.md sections 2 and 3) -/

/-- R221: the checks of COMMIT. Each bit of the mask tells that its check failed. -/
def Obligations.CommitChecks : Prop :=
  ∀ c : Cfg,
    let m := cfgMask c
    let kh := (ceilI (fmul (i2f c.rrcDelay.toNat) c.sps)).toNat
    m.getLsbD 0 = !(isfinite c.rrcRolloff && flt f0 c.rrcRolloff && fle c.rrcRolloff f1)
      ∧ m.getLsbD 1 = !decide (1 ≤ c.rrcDelay.toNat ∧ c.rrcDelay.toNat ≤ 32)
      ∧ m.getLsbD 2 = !decide (1 ≤ c.rrcNfilts.toNat ∧ c.rrcNfilts.toNat ≤ 256)
      ∧ m.getLsbD 3 = !(isfinite c.sps && fle f2 c.sps && fle c.sps f64)
      ∧ m.getLsbD 4 = (!m.getLsbD 1 && !m.getLsbD 2 && !m.getLsbD 3 && decide (65537 < 2 * kh * c.rrcNfilts.toNat + 1))
      ∧ m.getLsbD 5 = !(isfinite c.agcGain && isfinite c.agcRate && isfinite c.agcRef && isfinite c.agcGmin
          && isfinite c.agcGmax && flt f0 c.agcGmin && fle c.agcGmin c.agcGmax && fle c.agcGmin c.agcGain
          && fle c.agcGain c.agcGmax && fle f0 c.agcRate && flt c.agcRate f1 && flt f0 c.agcRef)
      ∧ m.getLsbD 6 = !(isfinite c.strLoopBw && fle f0 c.strLoopBw && flt c.strLoopBw f1)
      ∧ m.getLsbD 7 = !(isfinite c.strDamping && flt f0 c.strDamping)
      ∧ m.getLsbD 8 = !(isfinite c.strTedGain && flt f0 c.strTedGain)
      ∧ m.getLsbD 9 = !(isfinite c.strMaxDev && fle f0 c.strMaxDev && fle c.strMaxDev (fsub c.sps f1))
      ∧ m.getLsbD 10 = !decide (1 ≤ c.modcod.toNat ∧ c.modcod.toNat ≤ 28
          ∧ ¬ (c.frameSize = 1#1 ∧ c.modcod.toNat ∈ [11, 17, 23, 28]))
      ∧ m.getLsbD 11 = !decide (c.goldCode.toNat ≤ 262141)
      ∧ m.getLsbD 12 = !decide (1 ≤ c.plFreqEstPeriod.toNat)
      ∧ m.getLsbD 13 = !(isfinite c.corrThresh && flt f0 c.corrThresh && flt c.corrThresh f1)
      ∧ m.getLsbD 14 = !decide (1 ≤ c.lockLossN.toNat ∧ 1 ≤ c.plscMmN.toNat)
      ∧ m.getLsbD 15 = !decide (1 ≤ c.plscMaxDist.toNat ∧ c.plscMaxDist.toNat ≤ 31)
      ∧ m.getLsbD 16 = !(isfinite c.pilotThresh && flt f0 c.pilotThresh && flt c.pilotThresh f1)

/-- R221, R900, R902: a COMMIT of a legal shadow configuration, when the block does not run: the configuration becomes active
with its derived coefficients, every unit is at its reset value, and the shadow registers, `CMD_ERR_INFO`, the event registers,
`TAP_INDEX`, the 32-bit counters and the output buffer stay. A COMMIT of an illegal one writes the mask to `CFG_ERR`, clears
`CFG_VALID` and reports `CFG_FAIL`, and nothing else changes. The latches, the agenda and the free `rdata` of the write's answer
are the model's (notes/assumptions/1.md, 3.md, 24.md). -/
def Obligations.CommitResult : Prop :=
  (∀ s : State, s.ctl.running = false → cfgMask s.shadow = 0#17 →
    let a := deriveAct s.shadow
    exec .commit s = .next { s with
      act := a
      ctl := { s.ctl with cfgErr := 0#17, cfgValid := true }
      holds := ⟨0#32, 0#32, 0#32, 0#32⟩
      live := { State.reset.live with agcGainCur := s.shadow.agcGain, strPeriodCur := s.shadow.sps }
      agc := ⟨s.shadow.agcGain, 0#64, []⟩
      mf := ⟨List.replicate (2 * a.kh + 1) czero, []⟩
      str := { State.reset.str with delta := s.shadow.sps }
      pls := State.reset.pls
      cpr := State.reset.cpr
      dsc := { s.dsc with cur := State.reset.dsc.cur }
      fifo := ⟨[], [], [], [], [], []⟩
      port := written true s.port })
    ∧ ∀ s : State, s.ctl.running = false → cfgMask s.shadow ≠ 0#17 →
    exec .commit s = .next { s with
      ctl := { s.ctl with
        cfgErr := cfgMask s.shadow
        cfgValid := false
        irqStatus := s.ctl.irqStatus ||| 0x010#10 }
      port := written true s.port }

/-- R220, R222, R223, R226, R227: NOP changes nothing but the answer on the bus; START under a valid configuration sets
`RUNNING`, STOP clears it, FORCE_SEARCH sets the host's request, CLEAR_COUNTERS zeroes the five counters; each changes
nothing else. The `rdata` of the write's answer is free (notes/assumptions/24.md). -/
def Obligations.SimpleCommands : Prop :=
  ∀ s : State,
    let ok := written true s.port
    exec .nop s = .next { s with port := ok }
      ∧ (s.ctl.cfgValid = true → exec .start s = .next { s with ctl := { s.ctl with running := true }, port := ok })
      ∧ exec .stop s = .next { s with ctl := { s.ctl with running := false }, port := ok }
      ∧ exec .forceSearch s = .next { s with pls := { s.pls with force := true }, port := ok }
      ∧ exec .clearCounters s = .next { s with
          cnt := { frameCnt := 0#32, dropCnt := 0#32, acqCnt := 0#32, lossCnt := 0#32, pilotFailCnt := 0#32 }
          port := ok }

/-- R224, R902: SOFT_RESET clears `RUNNING` and puts every unit, FIFO, staging queue, live register and holding register at its
reset value under the active configuration; the rest stays. R63: the delay line then has `2*Kh + 1` zeros, and no elements while
`CFG_VALID` = 0; that R63 counts the elements in use of those R902 writes is the model's reading (notes/assumptions/14.md). The
model's latches reset with their units, and the `rdata` of the write's answer is free (notes/assumptions/3.md, 24.md). -/
def Obligations.SoftResetResets : Prop :=
  ∀ s : State, ∃ t, exec .softReset s = .next t
    ∧ t = { s with
      ctl := { s.ctl with running := false }
      holds := ⟨0#32, 0#32, 0#32, 0#32⟩
      live := { State.reset.live with agcGainCur := s.act.cfg.agcGain, strPeriodCur := s.act.cfg.sps }
      agc := ⟨s.act.cfg.agcGain, 0#64, []⟩
      mf := ⟨if s.act.l = 0 then [] else List.replicate (2 * s.act.kh + 1) czero, []⟩
      str := { State.reset.str with delta := s.act.cfg.sps }
      pls := State.reset.pls
      cpr := State.reset.cpr
      dsc := { s.dsc with cur := State.reset.dsc.cur }
      fifo := ⟨[], [], [], [], [], []⟩
      port := written true s.port }
    ∧ delayLine t = if s.ctl.cfgValid = true ∧ s.act.l ≠ 0 then List.replicate (2 * s.act.kh + 1) czero else []

/-- R36, R210: a write of `w` to `CMD` does what the command `w` stands for does. R810: the rejected commands: a reserved opcode
(REASON 1, before REASON 2), a nonzero `ARG` (REASON 2), COMMIT while running and START without a valid configuration (REASON 3)
record `{REASON, OPCODE}`, set `CMD_ERR` and change nothing else; for the operation RESERVED that is the whole effect (R151).
That a command's own instruction is the write that carries it is notes/assumptions/19.md; the `rdata` of the write's answer is
free (notes/assumptions/24.md). -/
def Obligations.CommandDispatch : Prop :=
  (∀ (s : State) (w : BitVec 32), exec (.csrWrite 0x008#12 4 w) s = exec (decodeCmd w) s)
    ∧ (∀ (s : State) (w : BitVec 32), reservedWord w = true →
    exec (.reserved w) s = .next { s with
      ctl := { s.ctl with
        cmdErrReason := if 6 < (w.extractLsb' 24 8).toNat then 1#2 else 2#2
        cmdErrOpcode := w.extractLsb' 24 8
        irqStatus := s.ctl.irqStatus ||| 0x040#10 }
      port := written true s.port })
    ∧ ∀ s : State,
    let rejected := fun (reason : BitVec 2) (op : BitVec 8) =>
      { s with
        ctl := { s.ctl with
          cmdErrReason := reason
          cmdErrOpcode := op
          irqStatus := s.ctl.irqStatus ||| 0x040#10 }
        port := written true s.port }
    (∀ w : BitVec 32, 6 < (w.extractLsb' 24 8).toNat →
        exec (.csrWrite 0x008#12 4 w) s = .next (rejected 1#2 (w.extractLsb' 24 8)))
      ∧ (∀ w : BitVec 32, (w.extractLsb' 24 8).toNat ≤ 6 → w.extractLsb' 0 24 ≠ 0#24 →
        exec (.csrWrite 0x008#12 4 w) s = .next (rejected 2#2 (w.extractLsb' 24 8)))
      ∧ (s.ctl.running = true → exec (.csrWrite 0x008#12 4 0x01000000#32) s = .next (rejected 3#2 0x01#8))
      ∧ (s.ctl.cfgValid = false → exec (.csrWrite 0x008#12 4 0x02000000#32) s = .next (rejected 3#2 0x02#8))

/-- R110, R223: a process step that is not enabled (the block stopped, the input FIFO empty, or the staging queue not empty; for
DSC, a completed frame waiting) is not taken and changes nothing; with `RUNNING` = 0 no drain step and no input beat is taken
either. That an attempt at a step that is not enabled changes nothing is the model's choice (notes/assumptions/16.md), and so is
that the operations of PLS and CPR run alone, when their group may run (notes/assumptions/10.md). -/
def Obligations.NotEnabledNotTaken : Prop :=
  ∀ s : State,
    (s.ctl.running = false ∨ s.fifo.fIn = [] ∨ s.agc.outq ≠ [] → exec .agcStep s = .next s)
      ∧ (s.ctl.running = false ∨ s.fifo.l12 = [] ∨ s.mf.outq ≠ [] → exec .mfStep s = .next s)
      ∧ (s.ctl.running = false ∨ s.fifo.l23 = [] ∨ s.str.outq ≠ [] → exec .strStep s = .next s)
      ∧ (s.ctl.running = false ∨ s.fifo.l34 = [] ∨ s.pls.outq ≠ [] → exec .plsStep s = .next s)
      ∧ (s.ctl.running = false ∨ s.fifo.l45 = [] ∨ s.cpr.outq ≠ [] → agentStep .cprStep s = .next s)
      ∧ (s.ctl.running = false ∨ s.fifo.l56 = [] ∨ s.dsc.cur.done = true → exec .dscStep s = .next s)
      ∧ (s.ctl.running = false ∨ s.pls.outq ≠ [] → exec .hdrTest s = .next s ∧ exec .hdrDecode s = .next s)
      ∧ (s.ctl.running = false ∨ s.cpr.outq ≠ [] → exec .freqUpdate s = .next s ∧ exec .phaseRef s = .next s
        ∧ (∀ z pos, exec (.mix z pos) s = .next s) ∧ ∀ blk o z, exec (.pilotSymbol blk o z) s = .next s)
      ∧ (s.ctl.running = false → (∀ g, agentStep (.drain g) s = .next s)
        ∧ ∀ i q, exec (.inBeat i q) s = .next { s with port := { s.port with inAck := false } })

/-! ## Numerics (00_scope.md section 6) -/

/-- R13: `fadd` and `fmul` are the exact sum and product rounded to the nearest binary32 value, ties to the even encoding,
whenever the result is finite. -/
def Obligations.SumAndProductRoundToNearest : Prop :=
  ∀ a b : F32, isfinite a = true → isfinite b = true →
    (isfinite (fadd a b) = true → ∀ c : F32, isfinite c = true →
      |fval (fadd a b) - (fval a + fval b)| ≤ |fval c - (fval a + fval b)|
        ∧ (|fval (fadd a b) - (fval a + fval b)| = |fval c - (fval a + fval b)| →
          fval c = fval (fadd a b) ∨ (fadd a b).toNat % 2 = 0))
      ∧ (isfinite (fmul a b) = true → ∀ c : F32, isfinite c = true →
        |fval (fmul a b) - fval a * fval b| ≤ |fval c - fval a * fval b|
          ∧ (|fval (fmul a b) - fval a * fval b| = |fval c - fval a * fval b| →
            fval c = fval (fmul a b) ∨ (fmul a b).toNat % 2 = 0))

/-- R13: `fsub`, `fdiv`, `fsqrt` and `i2f` round as IEEE 754 says, and all of them and `fadd` and `fmul` go to the infinity of
their sign from the midpoint above the greatest value on; `floor_i` is the exact floor; the comparisons are those of the numbers,
and false on a NaN; a NaN results exactly from a NaN operand or an invalid operation; the sign of a product or quotient, the
infinities and the zero of an exact cancellation. The sign and payload of a NaN are free (notes/assumptions/6.md). -/
def Obligations.ArithmeticRounds : Prop :=
  (∀ a b : F32, isfinite a = true → isfinite b = true →
    RoundsTo (fadd a b) ((fval a + fval b : ℚ) : ℝ)
      ∧ RoundsTo (fsub a b) ((fval a - fval b : ℚ) : ℝ)
      ∧ RoundsTo (fmul a b) ((fval a * fval b : ℚ) : ℝ)
      ∧ (fval b ≠ 0 → RoundsTo (fdiv a b) ((fval a / fval b : ℚ) : ℝ))
      ∧ (0 ≤ fval a → RoundsTo (fsqrt a) (Real.sqrt (fval a : ℝ)))
      ∧ floorI a = ⌊fval a⌋
      ∧ (flt a b = true ↔ fval a < fval b) ∧ (fle a b = true ↔ fval a ≤ fval b) ∧ (feq a b = true ↔ fval a = fval b)
      ∧ (fval a + fval b = 0 → fadd a b = if fsign a = true ∧ fsign b = true then 0x80000000#32 else f0))
    ∧ (∀ n : Int, RoundsTo (i2f n) (n : ℝ))
    ∧ (∀ a b : F32,
      isnan (fadd a b) = (isnan a || isnan b || (isinf a && isinf b && fsign a != fsign b))
        ∧ isnan (fsub a b) = (isnan a || isnan b || (isinf a && isinf b && fsign a == fsign b))
        ∧ isnan (fmul a b) = (isnan a || isnan b || (isinf a && feq b f0) || (isinf b && feq a f0))
        ∧ isnan (fdiv a b) = (isnan a || isnan b || (isinf a && isinf b) || (feq a f0 && feq b f0))
        ∧ isnan (fsqrt a) = (isnan a || flt a f0))
    ∧ (∀ a b : F32, (isnan a = true ∨ isnan b = true) → flt a b = false ∧ fle a b = false ∧ feq a b = false)
    ∧ (∀ a b : F32, isnan (fmul a b) = false → fsign (fmul a b) = (fsign a != fsign b))
    ∧ (∀ a b : F32, isnan (fdiv a b) = false → fsign (fdiv a b) = (fsign a != fsign b))
    ∧ ∀ a b : F32,
      (isinf a = true → isfinite b = true → fadd a b = a ∧ fadd b a = a ∧ isinf (fdiv a b) = true ∧ feq (fdiv b a) f0 = true)
        ∧ (isinf a = true → isnan (fmul a b) = false → isinf (fmul a b) = true ∧ isinf (fmul b a) = true)
        ∧ (isfinite a = true → feq a f0 = false → feq b f0 = true → isinf (fdiv a b) = true)
        ∧ (isinf a = true → fsign a = false → fsqrt a = a)

/-- R14, R15: the complex operations, the exact rotations, the complex sum and `wrap_t`. R16: the values, symmetries and ranges
required of `arg_t` and `cis_t` hold of the model's functions, whatever the free functions of Config are. The accuracy bounds
are not imposed (notes/assumptions/4.md); that the zeros of the required values are +0.0 is the model's reading
(notes/assumptions/9.md). -/
def Obligations.ArgAndCisProperties : Prop :=
  (∀ (a b : Cplx) (r : F32),
      cadd a b = ⟨fadd a.re b.re, fadd a.im b.im⟩ ∧ csub a b = ⟨fsub a.re b.re, fsub a.im b.im⟩
        ∧ cmul a b = ⟨fsub (fmul a.re b.re) (fmul a.im b.im), fadd (fmul a.re b.im) (fmul a.im b.re)⟩
        ∧ conj a = ⟨a.re, fneg a.im⟩ ∧ cscale r a = ⟨fmul r a.re, fmul r a.im⟩
        ∧ cnorm2 a = fadd (fmul a.re a.re) (fmul a.im a.im) ∧ cabs a = fsqrt (cnorm2 a)
        ∧ rotq a 0 = a ∧ rotq a 1 = ⟨fneg a.im, a.re⟩ ∧ rotq a 2 = ⟨fneg a.re, fneg a.im⟩ ∧ rotq a 3 = ⟨a.im, fneg a.re⟩)
    ∧ (∀ q : Fin 4, (rotInv q).val = (4 - q.val) % 4)
    ∧ fsum [] = 0x00000000#32 ∧ csum [] = ⟨0x00000000#32, 0x00000000#32⟩
    ∧ (∀ (l : List F32) (x : F32), fsum (l ++ [x]) = fadd (fsum l) x)
    ∧ (∀ (l : List Cplx) (z : Cplx), csum (l ++ [z]) = cadd (csum l) z)
    ∧ (∀ x : F32, wrapT x = fsub x (i2f (floorI (fadd x 0x3F000000#32))))
    ∧ argT czero = f0
    ∧ (∀ x : F32, isfinite x = true → flt f0 x = true →
      argT ⟨x, f0⟩ = f0 ∧ argT ⟨f0, x⟩ = 0x3E800000#32 ∧ argT ⟨f0, fneg x⟩ = 0xBE800000#32
        ∧ argT ⟨fneg x, f0⟩ = 0xBF000000#32 ∧ argT ⟨x, x⟩ = 0x3E000000#32)
    ∧ (∀ z : Cplx, fle 0xBF000000#32 (argT z) = true ∧ fle (argT z) 0x3F000000#32 = true)
    ∧ (∀ z : Cplx, ¬ (feq z.im f0 = true ∧ flt z.re f0 = true) → feq (argT (conj z)) (fneg (argT z)) = true)
    ∧ cisT f0 = ⟨0x3F800000#32, f0⟩ ∧ cisT 0x3E800000#32 = ⟨f0, 0x3F800000#32⟩
    ∧ ceq (cisT 0xBE800000#32) ⟨f0, 0xBF800000#32⟩ = true
    ∧ cisT 0x3F000000#32 = ⟨0xBF800000#32, f0⟩ ∧ cisT 0xBF000000#32 = ⟨0xBF800000#32, f0⟩
    ∧ ∀ a : F32, isfinite a = true → ceq (cisT (fneg a)) (conj (cisT a)) = true

/-- R13: the sign operations, `fmin`, `fmax` and `clampf`, and the values of the rules' literals. R17: `sat` answers a finite
value within `±SAT` for every word, a NaN becomes +0.0, and a finite value within the bounds is unchanged; a value beyond a
bound becomes `SAT` of its own sign. -/
def Obligations.SaturationBounds : Prop :=
  (∀ a b v lo hi : F32,
      fneg a = a ^^^ 0x80000000#32 ∧ fabs a = a &&& 0x7FFFFFFF#32
        ∧ fmin a b = (if flt b a = true then b else a) ∧ fmax a b = (if flt a b = true then b else a)
        ∧ clampf v lo hi = fmin (fmax v lo) hi)
    ∧ fval f0 = 0 ∧ fval fQuarter = 1 / 4 ∧ fval fHalf = 1 / 2 ∧ fval f1 = 1 ∧ fval f2 = 2 ∧ fval f4 = 4 ∧ fval f12h = 25 / 2
    ∧ fval f17h = 35 / 2 ∧ fval f44h = 89 / 2 ∧ fval f64 = 64 ∧ fval f72 = 72 ∧ f0 = 0x00000000#32
    ∧ ∀ v : F32,
    isfinite (sat v) = true ∧ fle 0xC7800000#32 (sat v) = true ∧ fle (sat v) 0x47800000#32 = true
      ∧ (isnan v = true → sat v = f0)
      ∧ (fle 0xC7800000#32 v = true → fle v 0x47800000#32 = true → sat v = v)
      ∧ (flt 0x47800000#32 v = true → sat v = 0x47800000#32)
      ∧ (flt v 0xC7800000#32 = true → sat v = 0xC7800000#32)

/-! ## Stages 1 and 2 (41_agc_matched_filter.md) -/

/-- R300 to R303: an AGC step takes one sample, sanitises it, scales it by the gain before this sample, saturates the product,
updates the gain and stages one item tagged with the sample's index; `NUM_EVT[0]` and `NUMERIC` are set when a saturation or
the clamp changed a value. Clamp changes are compared as bit patterns (notes/assumptions/11.md). -/
def Obligations.AgcStepResult : Prop :=
  ∀ (s : State) (x : Cplx) (rest : List Cplx),
    s.fifo.fIn = x :: rest → s.ctl.running = true → s.agc.outq = [] →
    let c := s.act.cfg
    let xs : Cplx := ⟨sat x.re, sat x.im⟩
    let raw : Cplx := ⟨fmul s.agc.g xs.re, fmul s.agc.g xs.im⟩
    let y : Cplx := ⟨sat raw.re, sat raw.im⟩
    let gn := fadd s.agc.g (fmul c.agcRate (fsub c.agcRef (fsqrt (fadd (fmul y.re y.re) (fmul y.im y.im)))))
    let g2 := clampf gn c.agcGmin c.agcGmax
    exec .agcStep s = .next { s with
      fifo := { s.fifo with fIn := rest }
      agc := { g := g2, sampleIdx := s.agc.sampleIdx + 1#64, outq := [⟨y, s.agc.sampleIdx⟩] }
      live := { s.live with agcGainCur := g2 }
      ctl := if xs ≠ x ∨ y ≠ raw ∨ g2 ≠ gn then
          { s.ctl with numEvt := s.ctl.numEvt ||| 0x001#10, irqStatus := s.ctl.irqStatus ||| 0x020#10 }
        else s.ctl }

/-- R303: under a configuration COMMIT accepted, the gain after a step lies between `AGC_GMIN` and `AGC_GMAX`, whatever the
sample. -/
def Obligations.AgcGainBounded : Prop :=
  ∀ (s : State) (x : Cplx) (rest : List Cplx),
    s.fifo.fIn = x :: rest → s.ctl.running = true → s.agc.outq = [] →
    cfgMask s.act.cfg = 0#17 → isfinite s.agc.g = true →
    ∃ t, exec .agcStep s = .next t
      ∧ isfinite t.agc.g = true ∧ fle s.act.cfg.agcGmin t.agc.g = true ∧ fle t.agc.g s.act.cfg.agcGmax = true

/-- R314: a matched-filter step shifts the sample into the delay line and stages the saturated outputs of all branches under
the sample's tag; `NUM_EVT[1]` and `NUMERIC` are set when a saturation changed a value, compared as bit patterns
(notes/assumptions/11.md). R63: no element of the line is in use while `CFG_VALID` = 0, which no running block has
(notes/assumptions/14.md). -/
def Obligations.MfStepResult : Prop :=
  ∀ (s : State) (it : Item12) (rest : List Item12),
    s.fifo.l12 = it :: rest → s.ctl.running = true → s.mf.outq = [] →
    let a := s.act
    let x := (it.z :: s.mf.x).take s.mf.x.length
    let line := if s.ctl.cfgValid = true then x else []
    let acc := (List.range a.n).map (fun b => (List.range (2 * a.kh + 1)).foldl
      (fun sum k =>
        if k * a.n + b < a.l then cadd sum (cscale (a.c.getD (k * a.n + b) f0) (line.getD k czero)) else sum) czero)
    let y : List Cplx := acc.map (fun z => ⟨sat z.re, sat z.im⟩)
    exec .mfStep s = .next { s with
      fifo := { s.fifo with l12 := rest }
      mf := { x := x, outq := [⟨y, it.smp⟩] }
      ctl := if y ≠ acc then
          { s.ctl with numEvt := s.ctl.numEvt ||| 0x002#10, irqStatus := s.ctl.irqStatus ||| 0x020#10 }
        else s.ctl }

/-- R310: the prototype of a legal configuration has the properties P1 to P3, whatever the free prototype is: finite taps, exact
symmetry, finite and strictly positive branch sums. The constant prototype that stands in for an illegal free one is the
model's (notes/assumptions/5.md). -/
def Obligations.PrototypeProperties : Prop :=
  ∀ c : Cfg, cfgMask c = 0#17 →
    let n := c.rrcNfilts.toNat
    let kh := (deriveAct c).kh
    let l := (deriveAct c).l
    let p := rrcProto c.rrcRolloff c.rrcDelay.toNat c.sps n
    (∀ i, i < l → isfinite (p i) = true)
      ∧ (∀ i, i < l → p i = p (l - 1 - i))
      ∧ ∀ b, b < n → isfinite (branchNorm p kh n b) = true ∧ flt f0 (branchNorm p kh n b) = true

/-- R225, R312, R313, R401: the values COMMIT derives: the sizes, the coefficients as prototype taps over branch sums, their
exact symmetry, and the two loop gains. -/
def Obligations.DerivedCoefficients : Prop :=
  ∀ c : Cfg,
    let a := deriveAct c
    let p := rrcProto c.rrcRolloff c.rrcDelay.toNat c.sps a.n
    let theta := fdiv c.strLoopBw (fadd c.strDamping (fdiv fQuarter c.strDamping))
    let d := fadd (fadd f1 (fmul (fmul f2 c.strDamping) theta)) (fmul theta theta)
    a.cfg = c ∧ a.n = c.rrcNfilts.toNat ∧ a.kh = (ceilI (fmul (i2f c.rrcDelay.toNat) c.sps)).toNat
      ∧ a.l = 2 * a.kh * a.n + 1 ∧ a.c.length = a.l
      ∧ (1 ≤ a.n → ∀ i, i < a.l → a.c.getD i 0#32 = a.c.getD (a.l - 1 - i) 0#32)
      ∧ (1 ≤ a.n → ∀ i, i < a.l → a.c.getD i 0#32 = fdiv (p i) (branchNorm p a.kh a.n (i % a.n)))
      ∧ (∀ b, b ≤ a.n / 2 → branchNorm p a.kh a.n b = (List.range (2 * a.kh + 1)).foldl
          (fun sum k => if k * a.n + b < a.l then fadd sum (p (k * a.n + b)) else sum) f0)
      ∧ (∀ b, a.n / 2 < b → b < a.n → branchNorm p a.kh a.n b = branchNorm p a.kh a.n (a.n - b))
      ∧ a.kp = fdiv (fmul (fmul f4 c.strDamping) theta) (fmul d c.strTedGain)
      ∧ a.ki = fdiv (fmul f4 (fmul theta theta)) (fmul d c.strTedGain)

/-! ## Stage 3 (42_symbol_timing.md) -/

/-- R404 to R407, R409: what a strobe does: the interpolant, the Gardner error, the clamped loop filter, the next period, the
schedule of the next midpoint and strobe, and the symbol staged under the item's tag. A clamp acts when it changes the bit
pattern (notes/assumptions/11.md); a negative floor counts as 0 items, and the next strobe lies at least 1 item ahead, the bound
R406 states (notes/assumptions/12.md). A negative floor, which only a position that is not finite can have in a run, selects
branch 0 (notes/assumptions/25.md). -/
def Obligations.StrobeEffect : Prop :=
  ∀ (s : State) (y : List Cplx) (smp : Idx),
    let st := s.str
    let c := s.act.cfg
    let yn := y.getD (min (floorI (fmul st.muS (i2f s.act.n))) ((s.act.n : Int) - 1)).toNat czero
    let dd := csub st.yPrev yn
    let e := if st.havePrev = true ∧ st.haveMid = true then
        fadd (fmul st.yMid.re dd.re) (fmul st.yMid.im dd.im) else f0
    let vi0 := fadd st.vi (fmul s.act.ki e)
    let vi := clampf vi0 (fneg c.strMaxDev) c.strMaxDev
    let v0 := fadd (fmul s.act.kp e) vi
    let v := clampf v0 (fneg c.strMaxDev) c.strMaxDev
    let delta := fadd c.sps v
    let pm := fadd st.muS (fmul delta fHalf)
    let ps := fadd st.muS delta
    strobe y smp s = { s with
      str := { st with
        cS := max 1 (floorI ps).toNat
        muS := fsub ps (i2f (floorI ps))
        cM := (floorI pm).toNat
        muM := fsub pm (i2f (floorI pm))
        midPending := true
        haveMid := false
        havePrev := true
        yPrev := yn
        vi := vi
        delta := delta
        eLast := e
        outq := st.outq ++ [⟨yn, smp⟩] }
      live := { s.live with strErrCur := e, strPeriodCur := delta, strMuCur := fsub ps (i2f (floorI ps)) }
      ctl := if vi ≠ vi0 ∨ v ≠ v0 then
          { s.ctl with numEvt := s.ctl.numEvt ||| 0x004#10, irqStatus := s.ctl.irqStatus ||| 0x020#10 }
        else s.ctl }

/-- R402, R403: a timing step takes one item and handles the events that fall in it in time order (a midpoint, the strobe, the
strobe's own midpoint), then both counters step towards the next item. A strobe is described by StrobeEffect; that the next one
lies in a later item is R406's bound (notes/assumptions/12.md). A negative floor, which only a position that is not finite can
have in a run, selects branch 0 (notes/assumptions/25.md). -/
def Obligations.StrStepResult : Prop :=
  ∀ (s : State) (it : Item23) (rest : List Item23),
    s.fifo.l23 = it :: rest → s.ctl.running = true → s.str.outq = [] →
    let mid := fun u : State => if u.str.midPending = true ∧ u.str.cM = 0 then
        { u with str := { u.str with
          yMid := it.y.getD (min (floorI (fmul u.str.muM (i2f s.act.n))) ((s.act.n : Int) - 1)).toNat czero
          haveMid := true
          midPending := false } }
      else u
    let s1 := mid { s with fifo := { s.fifo with l23 := rest } }
    let s2 := if s1.str.cS = 0 then mid (strobe it.y it.smp s1) else s1
    exec .strStep s = .next { s2 with str := { s2.str with
      cS := s2.str.cS - 1
      cM := if s2.str.midPending = true then s2.str.cM - 1 else s2.str.cM } }

/-- R405, R406, R412: the loop filter's clamps hold the integrator and the output within `±STR_MAX_DEV` for every finite error,
integrator and gain; and under a configuration COMMIT accepted, a period with such an output is at least 1, so the next
strobe lies in a later item. Finite gains are a premise (notes/assumptions/13.md). -/
def Obligations.TimingLoopBounded : Prop :=
  (∀ (a : Act) (vi e : F32),
    fle f0 a.cfg.strMaxDev = true → isfinite a.cfg.strMaxDev = true →
    isfinite a.kp = true → isfinite a.ki = true → isfinite vi = true → isfinite e = true →
    fle (fneg a.cfg.strMaxDev) (loopInt a vi e) = true ∧ fle (loopInt a vi e) a.cfg.strMaxDev = true
      ∧ fle (fneg a.cfg.strMaxDev) (loopOut a vi e) = true ∧ fle (loopOut a vi e) a.cfg.strMaxDev = true)
    ∧ ∀ (c : Cfg) (v mu : F32), cfgMask c = 0#17 →
    fle (fneg c.strMaxDev) v = true → fle v c.strMaxDev = true → fle f0 mu = true → flt mu f1 = true →
    fle f1 (fadd c.sps v) = true ∧ 1 ≤ floorI (fadd mu (fadd c.sps v))

/-! ## Stage 4 (43_pl_sync.md) -/

/-- R504: every bit of the codeword `cw(p)`, and the table's entries for 0, 1, 16 and 127. R512: `dist` counts the places where
the word and the codeword differ. The nearest-codeword decision answers a value of least distance, the smallest such value on a
tie, and corrects up to 15 bit errors: it then answers the value sent, with the number of errors as its distance. -/
def Obligations.NearestCodewordDecision : Prop :=
  (∀ (p : BitVec 7) (m : Nat), m < 64 →
      let g : List (BitVec 32) := [0x55555555#32, 0x33333333#32, 0x0F0F0F0F#32, 0x00FF00FF#32, 0x0000FFFF#32, 0xFFFFFFFF#32]
      let y := (List.range 6).foldl (fun acc r => if p.getLsbD (6 - r) = true then acc ^^^ g.getD r 0#32 else acc) 0#32
      let u := if m % 2 = 0 then y.getLsbD (31 - m / 2) else y.getLsbD (31 - m / 2) ^^ p.getLsbD 0
      (plscCode p).getLsbD (63 - m) = (u ^^ (0x719D83C953422DFA#64).getLsbD (63 - m)))
    ∧ plscCode 0#7 = 0x719D83C953422DFA#64 ∧ plscCode 1#7 = 0x24C8D69C061778AF#64
    ∧ plscCode 16#7 = 0x7162833653BD2D05#64 ∧ plscCode 127#7 = 0xE7F4EA5F3AD4BB93#64
    ∧ (∀ v : BitVec 64, popcount64 v = ((List.range 64).filter (fun k => v.getLsbD k)).length)
    ∧ (∀ (word : BitVec 64) (p : BitVec 7), codeDist word p = popcount64 (word ^^^ plscCode p))
    ∧ (∀ (word : BitVec 64) (p : BitVec 7),
    codeDist word (nearestPls word) ≤ codeDist word p
      ∧ (codeDist word p = codeDist word (nearestPls word) → (nearestPls word).toNat ≤ p.toNat))
    ∧ ∀ (p : BitVec 7) (err : BitVec 64), popcount64 err ≤ 15 →
    nearestPls (plscCode p ^^^ err) = p ∧ codeDist (plscCode p ^^^ err) p = popcount64 err

/-- R501, R503, R506, R507, R520, for every PLS value: the slot table by MODCOD and `TYPE[1]`, the pilot blocks `P`, the frame
length (3330 for a dummy), which values are supported, and the class of every position. Then the layout of a supported frame
that is not a dummy: every position is a header symbol, a symbol of one of the `P` pilot blocks, or one of the `90 * S` data
symbols; every data index occurs at exactly one position; and the frame ends with a data symbol. -/
def Obligations.FrameLayout : Prop :=
  (∀ p : BitVec 7,
      let m := p.toNat / 4
      modcodOf p = m ∧ isShort p = p.getLsbD 1
        ∧ (m = 0 → slots p = 36)
        ∧ (1 ≤ m → m ≤ 11 → slots p = if p.getLsbD 1 = true then 90 else 360)
        ∧ (12 ≤ m → m ≤ 17 → slots p = if p.getLsbD 1 = true then 60 else 240)
        ∧ (18 ≤ m → m ≤ 23 → slots p = if p.getLsbD 1 = true then 45 else 180)
        ∧ (24 ≤ m → m ≤ 28 → slots p = if p.getLsbD 1 = true then 36 else 144)
        ∧ dataCount p = 90 * slots p
        ∧ pilotBlocks p = (if p.getLsbD 0 = true ∧ m ≠ 0 then (slots p - 1) / 16 else 0)
        ∧ frameLen p = (if m = 0 then 3330 else 90 * (slots p + 1) + 36 * pilotBlocks p)
        ∧ (supported p = true ↔ m ≤ 28 ∧ ¬ (p.getLsbD 1 = true ∧ m ∈ [11, 17, 23, 28])))
    ∧ (∀ n pos : Nat,
      let i := pos - 90
      let g := i % 1476
      let blk := i / 1476
      posClass n pos =
        if pos < 90 then .header pos
        else if 0 < n ∧ 1440 ≤ g ∧ blk < n then .pilot blk (g - 1440)
        else .data (i - 36 * min blk n))
    ∧ ∀ p : BitVec 7, supported p = true → modcodOf p ≠ 0 →
    (∀ pos, pos < frameLen p → match posClass (pilotBlocks p) pos with
      | .header k => k = pos ∧ k < 90
      | .pilot blk o => blk < pilotBlocks p ∧ o < 36 ∧ pos = 90 + 1476 * blk + 1440 + o
      | .data didx => didx < 90 * slots p ∧ 90 ≤ pos)
      ∧ (∀ d, d < 90 * slots p → ∃ pos, pos < frameLen p ∧ posClass (pilotBlocks p) pos = .data d
        ∧ ∀ q, q < frameLen p → posClass (pilotBlocks p) q = .data d → q = pos)
      ∧ posClass (pilotBlocks p) (frameLen p - 1) = .data (90 * slots p - 1)

/-- R500, R504, R505: the header bits are SOF and then the codeword; the references and decision axes are their pi/2-BPSK
symbols, scrambled when `HDR_SCR` = 1. R508, R509: `q(k)`; a header test computes the ratio of the differential correlation to
the energy of the window, shows it in `CORR_LAST`, and a hit is a strict excess over `CORR_THRESH`. R510 to R512: a header
decode takes hard decisions after removing frequency and phase, shows its value and distance in `LAST_PLS` and accepts it when
the distance is at most `PLSC_MAX_DIST` and the value supported. As operations of their own both run when PLS may run, and their
results stay in the model's latches (notes/assumptions/3.md, 10.md). -/
def Obligations.HeaderTestAndDecode : Prop :=
  (∀ (p : BitVec 7) (k : Nat), k < 26 → headerBit p k =
      ([0, 1, 1, 0, 0, 0, 1, 1, 0, 1, 0, 0, 1, 0, 1, 1, 1, 0, 1, 0, 0, 0, 0, 0, 1, 0].getD k 0 == 1))
    ∧ (∀ (p : BitVec 7) (m : Nat), m < 64 → headerBit p (26 + m) = (plscCode p).getLsbD (63 - m))
    ∧ (∀ (c : Cfg) (p : BitVec 7) (k : Nat), k < 90 →
      let q := if c.syncCtrl.getLsbD 1 = true then goldR c.goldCode.toNat k else 0
      let v := fun a : Bool => if a = true then 0xBF800000#32 else 0x3F800000#32
      let b := fun a : Bool => if k % 2 = 0 then (⟨v a, v a⟩ : Cplx) else ⟨v (!a), v a⟩
      href c p k = rotq (b (headerBit p k)) q ∧ axis c k = rotq (b false) q)
    ∧ (∀ (c : Cfg) (k : Nat), 1 ≤ k → k < 90 →
      ceq (cscale 0x3F000000#32 (cmul (href c 0#7 k) (conj (href c 0#7 (k - 1)))))
        (rotq ⟨0x3F800000#32, 0#32⟩ (headerQ c k)) = true)
    ∧ (∀ (c : Cfg) (win : List Cplx),
      let w := fun k : Nat => win.getD k czero
      let dlt := fun k : Nat => rotq (cmul (w k) (conj (w (k - 1)))) (rotInv (headerQ c k))
      let cs := csum ((List.range 25).map (fun k => dlt (k + 1)))
      let m := fadd (cabs cs) (cabs (csum ((List.range 32).map (fun i => dlt (27 + 2 * i)))))
      let e := fsum (((List.range 25).map (fun k => k + 1) ++ (List.range 32).map (fun i => 27 + 2 * i)).map
        (fun k => fmul fHalf (fadd (cnorm2 (w k)) (cnorm2 (w (k - 1))))))
      let d := fun k : Nat => cmul (w k) (cisT (fneg (fmul (argT cs) (fsub (i2f k) f12h))))
      let phi0 := argT (csum ((List.range 26).map (fun k => cmul (d k) (conj (href c 0#7 k)))))
      let proj := fun k : Nat =>
        let v := cmul (d k) (cisT (fneg phi0))
        fadd (fmul v.re (axis c k).re) (fmul v.im (axis c k).im)
      headerHit c win = (flt f0 e && flt (fmul c.corrThresh e) m)
        ∧ headerRatio c win = (if flt f0 e = true then fdiv m e else f0)
        ∧ ∀ i, i < 64 → (headerWord c win).getLsbD (63 - i) = flt (proj (26 + i)) f0)
    ∧ (∀ (c : Cfg) (word : BitVec 64),
      let p := nearestPls word
      let d := codeDist word p
      decideWord c word = ⟨p, d, decide (d ≤ c.plscMaxDist.toNat) && supported p⟩)
    ∧ ∀ s : State, s.ctl.running = true → s.pls.outq = [] →
      let c := s.act.cfg
      let d := decideWord c (headerWord c s.pls.w)
      exec .hdrTest s = .next { s with
        pls := { s.pls with hit := headerHit c s.pls.w }
        live := { s.live with corrLast := headerRatio c s.pls.w } }
      ∧ exec .hdrDecode s = .next { s with
        pls := { s.pls with dec := d }
        live := { s.live with lastPls := d.pls, lastDist := BitVec.ofNat 7 d.dist } }

/-- R505, R509, R512: a noiseless header of any PLS value, scrambled or not, has correlation ratio exactly 1.0, is a hit under
every legal threshold, and decodes to its value with distance 0. That HDR_TEST and HDR_DECODE run as operations of their own and
leave their results in latches is the model's choice (notes/assumptions/3.md, 10.md). -/
def Obligations.NoiselessHeaderDecodes : Prop :=
  ∀ (s : State) (p : BitVec 7), s.ctl.running = true → s.pls.outq = [] →
    cfgMask s.act.cfg = 0#17 → s.pls.w = (List.range 90).map (href s.act.cfg p) →
    (∃ t, exec .hdrTest s = .next t ∧ t.live.corrLast = 0x3F800000#32 ∧ t.pls.hit = true)
      ∧ ∃ t, exec .hdrDecode s = .next t ∧ t.live.lastPls = p ∧ t.live.lastDist = 0#7
        ∧ t.pls.dec = ⟨p, 0, supported p⟩

/-- R521 to R524: a step while `SEARCHING` (no request acting) slides the window; once it is full, the window is tested, and on
a hit decoded and held in `HEADER_FOUND`. The results of the test and the decode stay in the model's latches `hit` and `dec`
(notes/assumptions/3.md). -/
def Obligations.SearchStepResult : Prop :=
  ∀ (s : State) (it : Item34) (rest : List Item34),
    s.fifo.l34 = it :: rest → s.ctl.running = true → s.pls.outq = [] → s.pls.state = .searching →
    let w := s.pls.w.drop 1 ++ [it.y]
    let ws := s.pls.wsmp.drop 1 ++ [it.smp]
    let fill := min (s.pls.fill + 1) 90
    let t := { s with
      fifo := { s.fifo with l34 := rest }
      pls := { s.pls with
        w := w
        wsmp := ws
        fill := fill
        force := false
        cforce := false
        symbolIdx := s.pls.symbolIdx + 1#64 } }
    let hit := headerHit s.act.cfg w
    let tested := { t with
      pls := { t.pls with hit := hit }
      live := { t.live with corrLast := headerRatio s.act.cfg w } }
    let d := decideWord s.act.cfg (headerWord s.act.cfg w)
    exec .plsStep s = .next
      (if fill ≠ 90 then t
      else if hit = false then tested
      else { tested with
        pls := { tested.pls with
          state := .headerFound
          dec := d
          pend := some ⟨w, ws, s.pls.symbolIdx - 89#64, d⟩ }
        live := { tested.live with lastPls := d.pls, lastDist := BitVec.ofNat 7 d.dist } })

/-- R525, R528, R532, R533, R536, R537: the symbol after a header whose decode was accepted locks the synchroniser, reports the
header's position and decides whether the frame is forwarded; a forwarded frame's header and this first payload symbol are
emitted, a filtered frame is dropped and a dummy frame only tracked. A rejected decode is a false alarm: the synchroniser is
back in `SEARCHING` with its window, fill and epoch kept, counts and reports nothing, and tests the window this symbol completes
in the same step, exactly as a search step would. That a PLS_STEP which is not enabled changes nothing is the model's choice
(notes/assumptions/16.md). -/
def Obligations.ConfirmStepResult : Prop :=
  (∀ (s : State) (it : Item34) (rest : List Item34) (d : Pend),
    s.fifo.l34 = it :: rest → s.ctl.running = true → s.pls.outq = [] → s.pls.state = .headerFound → quiet s →
    s.pls.pend = some d → d.dec.ok = true →
    let p := d.dec.pls
    let drop := !isDummy p && isFiltered s.act.cfg p
    let fwd := !isDummy p && !isFiltered s.act.cfg p
    let fid := if fwd = true then s.pls.fid + 1#32 else s.pls.fid
    exec .plsStep s = .next { s with
      fifo := { s.fifo with l34 := rest }
      pls := { s.pls with
        w := s.pls.w.drop 1 ++ [it.y]
        wsmp := s.pls.wsmp.drop 1 ++ [it.smp]
        fill := min (s.pls.fill + 1) 90
        force := false
        cforce := false
        symbolIdx := s.pls.symbolIdx + 1#64
        state := .locked
        curPls := p
        curLen := frameLen p
        cnt := frameLen p - 1
        miss := 0#8
        mm := 0#8
        pend := none
        fwd := fwd
        fid := fid
        outq := if fwd = true then
            headerItems d.w d.wsmp s.pls.epoch fid p ++ [⟨it.y, it.smp, s.pls.epoch, fid, p, 90⟩]
          else [] }
      live := { s.live with
        lastHdrSym := d.sym0
        lastHdrSmp := d.wsmp.getD 0 0#64
        frameLen := BitVec.ofNat 16 (frameLen p) }
      cnt := { s.cnt with
        acqCnt := s.cnt.acqCnt + 1#32
        dropCnt := if drop = true then s.cnt.dropCnt + 1#32 else s.cnt.dropCnt }
      ctl := { s.ctl with irqStatus := if drop = true then s.ctl.irqStatus ||| 0x101#10 else s.ctl.irqStatus ||| 0x001#10 } })
    ∧ ∀ (s : State) (d : Pend),
    s.pls.state = .headerFound → quiet s → s.pls.pend = some d → d.dec.ok = false →
    exec .plsStep s = if plsEnabled s = true then
      exec .plsStep { s with pls := { s.pls with state := .searching, pend := none } } else .next s

/-- R526, R533: while `LOCKED`, a payload symbol of a forwarded frame is emitted at its frame position, one of a frame not
forwarded is not, and the symbols of the next header wait in the window. -/
def Obligations.TrackStepResult : Prop :=
  ∀ (s : State) (it : Item34) (rest : List Item34),
    s.fifo.l34 = it :: rest → s.ctl.running = true → s.pls.outq = [] → s.pls.state = .locked → quiet s → s.pls.cnt ≠ 1 →
    s.pls.cnt ≠ 0 →
    exec .plsStep s = .next { s with
      fifo := { s.fifo with l34 := rest }
      pls := { s.pls with
        w := s.pls.w.drop 1 ++ [it.y]
        wsmp := s.pls.wsmp.drop 1 ++ [it.smp]
        fill := min (s.pls.fill + 1) 90
        force := false
        cforce := false
        symbolIdx := s.pls.symbolIdx + 1#64
        cnt := s.pls.cnt - 1
        outq := if 90 ≤ s.pls.cnt - 1 ∧ s.pls.fwd = true then
            [⟨it.y, it.smp, s.pls.epoch, s.pls.fid, s.pls.curPls, s.pls.curLen + 89 - (s.pls.cnt - 1)⟩]
          else [] } }

/-- R527 to R529, R532 to R534: the header check at the expected offset: the test and the decode update the two failure counts;
a count that reaches its limit loses the lock; otherwise the frame is tracked, forwarded when the header is a hit and its
decode accepted (unless dummy or filtered), and dropped (unless dummy) when it is not. The results of the test and the decode
stay in the model's latches `hit` and `dec` (notes/assumptions/3.md). -/
def Obligations.CheckResult : Prop :=
  ∀ (s : State) (it : Item34) (rest : List Item34),
    s.fifo.l34 = it :: rest → s.ctl.running = true → s.pls.outq = [] → s.pls.state = .locked → quiet s → s.pls.cnt = 1 →
    let c := s.act.cfg
    let w := s.pls.w.drop 1 ++ [it.y]
    let ws := s.pls.wsmp.drop 1 ++ [it.smp]
    let hit := headerHit c w
    let d := decideWord c (headerWord c w)
    let miss := if hit = true then 0#8 else if s.pls.miss = 255#8 then 255#8 else s.pls.miss + 1#8
    let mm := if d.ok = true then 0#8 else if s.pls.mm = 255#8 then 255#8 else s.pls.mm + 1#8
    let lost := c.lockLossN.toNat ≤ miss.toNat ∨ c.plscMmN.toNat ≤ mm.toNat
    let p := if d.ok = true then d.pls else s.pls.curPls
    let good := hit && d.ok
    let fwd := good && !isDummy p && !isFiltered c p
    let drop := !isDummy p && (!good || isFiltered c p)
    let fid := if fwd = true then s.pls.fid + 1#32 else s.pls.fid
    let t := { s with
      fifo := { s.fifo with l34 := rest }
      pls := { s.pls with
        force := false
        cforce := false
        symbolIdx := s.pls.symbolIdx + 1#64
        hit := hit
        dec := d }
      live := { s.live with
        corrLast := headerRatio c w
        lastPls := d.pls
        lastDist := BitVec.ofNat 7 d.dist } }
    exec .plsStep s = .next
      (if lost then { t with
        pls := { t.pls with
          w := List.replicate 90 czero
          wsmp := List.replicate 90 0#64
          fill := 0
          state := .searching
          cnt := 0
          curPls := 0#7
          curLen := 0
          miss := 0#8
          mm := 0#8
          fwd := false
          pend := none
          epoch := s.pls.epoch + 1#32 }
        live := { t.live with frameLen := 0#16 }
        cnt := { s.cnt with lossCnt := s.cnt.lossCnt + 1#32 }
        ctl := { s.ctl with irqStatus := s.ctl.irqStatus ||| 0x002#10 } }
      else { t with
        pls := { t.pls with
          w := w
          wsmp := ws
          fill := min (s.pls.fill + 1) 90
          miss := miss
          mm := mm
          curPls := p
          curLen := frameLen p
          cnt := frameLen p
          fwd := fwd
          fid := fid
          outq := if fwd = true then headerItems w ws s.pls.epoch fid p else [] }
        live := { t.live with
          frameLen := BitVec.ofNat 16 (frameLen p)
          lastHdrSym := if good = true then s.pls.symbolIdx - 89#64 else s.live.lastHdrSym
          lastHdrSmp := if good = true then ws.getD 0 0#64 else s.live.lastHdrSmp }
        cnt := { s.cnt with dropCnt := if drop = true then s.cnt.dropCnt + 1#32 else s.cnt.dropCnt }
        ctl := { s.ctl with irqStatus := if drop = true then s.ctl.irqStatus ||| 0x100#10 else s.ctl.irqStatus } })

/-- R226, R529, R530, R640: a force request that acts makes the synchroniser leave its lock or its held header at its next step:
it is `SEARCHING` in a new epoch with an empty window that already holds this symbol, the loss is counted and reported, and
both requests are cleared. -/
def Obligations.ForcedSearch : Prop :=
  ∀ (s : State) (it : Item34) (rest : List Item34),
    s.fifo.l34 = it :: rest → s.ctl.running = true → s.pls.outq = [] → forced s →
    exec .plsStep s = .next { s with
      fifo := { s.fifo with l34 := rest }
      pls := { s.pls with
        w := List.replicate 89 czero ++ [it.y]
        wsmp := List.replicate 89 0#64 ++ [it.smp]
        fill := 1
        state := .searching
        cnt := 0
        curPls := 0#7
        curLen := 0
        miss := 0#8
        mm := 0#8
        fwd := false
        pend := none
        force := false
        cforce := false
        epoch := s.pls.epoch + 1#32
        symbolIdx := s.pls.symbolIdx + 1#64 }
      live := { s.live with frameLen := 0#16 }
      cnt := { s.cnt with lossCnt := s.cnt.lossCnt + 1#32 }
      ctl := { s.ctl with irqStatus := s.ctl.irqStatus ||| 0x002#10 } }

/-- R525, R801: only the confirmation of a held header locks: a step of any agent that leaves the synchroniser `LOCKED` when it
was not is a PLS step in `HEADER_FOUND` with an accepted decode, counts one acquisition and sets `LOCK`. -/
def Obligations.OnlyConfirmationLocks : Prop :=
  ∀ (s t : State) (a : Action), agentStep a s = .next t → s.pls.state ≠ .locked → t.pls.state = .locked →
    presents a .plsStep ∧ s.pls.state = .headerFound ∧ (∃ d, s.pls.pend = some d ∧ d.dec.ok = true)
      ∧ t.cnt.acqCnt = s.cnt.acqCnt + 1#32 ∧ t.ctl.irqStatus.getLsbD 0 = true

/-! ## Stage 5 (44_carrier_recovery.md) -/

/-- R602, R603: the mixer applies a pending estimate at position 0 only, rotates the symbol by the phase accumulator and
advances it. As an operation of its own it runs when CPR may run, and `s1` stays in the model's latch
(notes/assumptions/3.md, 10.md). -/
def Obligations.MixResult : Prop :=
  ∀ (s : State) (z : Cplx) (pos : BitVec 16), s.ctl.running = true → s.cpr.outq = [] →
    let applies := pos = 0#16 ∧ s.cpr.fPendV = true
    let f := if applies then s.cpr.fPend else s.cpr.fAct
    exec (.mix z pos) s = .next { s with
      cpr := { s.cpr with
        fAct := f
        fPendV := if applies then false else s.cpr.fPendV
        s1 := cmul z (cisT (fneg s.cpr.psi))
        psi := wrapT (fadd s.cpr.psi f) }
      live := { s.live with
        freqEst := if applies then s.cpr.fPend else s.live.freqEst
        freqEstHz := if applies then fmul s.cpr.fPend s.act.cfg.symRate else s.live.freqEstHz } }

/-- R616: FREQ_UPDATE makes the argument of the accumulated differential the pending estimate, clears the accumulation, sets
`FREQ_VALID` and reports `FREQ_UPD`. R620: the header phase reference is the argument of the correlation of the derotated
header with its reference, taken at frame position 44.5 and shown in `PHASE_LAST`. As operations of their own both run when
CPR may run (notes/assumptions/10.md). -/
def Obligations.EstimateAndPhaseReference : Prop :=
  (∀ s : State, s.ctl.running = true → s.cpr.outq = [] →
    exec .freqUpdate s = .next { s with
      cpr := { s.cpr with
        fPend := argT s.cpr.dAcc
        fPendV := true
        dAcc := ⟨0#32, 0#32⟩
        nEst := 0#16
        freqValid := true }
      ctl := { s.ctl with irqStatus := s.ctl.irqStatus ||| 0x008#10 } })
    ∧ ∀ s : State, s.ctl.running = true → s.cpr.outq = [] →
    let th := argT (csum ((List.range 90).map
      (fun k => cmul (s.cpr.hder.getD k czero) (conj (href s.act.cfg s.cpr.fr.pls k)))))
    exec .phaseRef s = .next { s with
      cpr := { s.cpr with refT := 0x42320000#32, refTh := th }
      live := { s.live with phaseLast := th } }

/-- R600, R630, R631, R635, R636, R640: a pilot symbol, compared with its scrambled reference `PREF(i)`, adds to the block's
correlation and energy. At the last symbol of a block that is present, every held data symbol is released with the interpolated
phase, oldest first, and the block becomes the reference; of a block that is absent, the frame fails: it is dropped and
reported, its epoch marked, and re-search requested. As an operation of its own it runs when CPR may run
(notes/assumptions/10.md). -/
def Obligations.PilotSymbolResult : Prop :=
  ∀ (s : State) (blk o : BitVec 8) (s1 : Cplx), s.ctl.running = true → s.cpr.outq = [] →
    let i := 1476 * blk.toNat + 1440 + o.toNat
    let acc := cadd s.cpr.pacc (cmul s1 (conj (rotq ⟨0x3F800000#32, 0x3F800000#32⟩ (goldR s.act.cfg.goldCode.toNat i))))
    let en := fadd s.cpr.pen (cnorm2 s1)
    let absent := flt f0 en = false ∨ flt (fdiv (cnorm2 acc) (fmul f72 en)) s.act.cfg.pilotThresh = true
    let tb := fadd (i2f ((90 + 1440 * (blk.toNat + 1) + 36 * blk.toNat : Nat) : Int)) f17h
    let thb := argT acc
    let phi := fun h : Held => wrapT (fadd s.cpr.refTh (fmul (wrapT (fsub thb s.cpr.refTh))
      (fdiv (fsub (i2f h.pos) s.cpr.refT) (fsub tb s.cpr.refT))))
    exec (.pilotSymbol blk o s1) s = .next
      (if o ≠ 35#8 then { s with cpr := { s.cpr with pacc := acc, pen := en } }
      else if absent then { s with
        cpr := { s.cpr with
          pacc := acc
          pen := en
          hold := []
          fr := { s.cpr.fr with drop := true }
          outq := [.abort s.cpr.fr.fid]
          failV := true
          failEpoch := s.cpr.fr.ep }
        pls := { s.pls with cforce := true, cforceEp := s.cpr.fr.ep }
        cnt := { s.cnt with pilotFailCnt := s.cnt.pilotFailCnt + 1#32 }
        ctl := { s.ctl with irqStatus := s.ctl.irqStatus ||| 0x080#10 } }
      else { s with
        cpr := { s.cpr with
          pacc := ⟨0#32, 0#32⟩
          pen := f0
          hold := []
          refT := tb
          refTh := thb
          outq := s.cpr.hold.map (fun h =>
            .data (cmul h.s1 (cisT (fneg (phi h)))) s.cpr.fr.pls s.cpr.fr.fid h.didx (h.pos - 90)) }
        live := { s.live with phaseLast := thb } })

/-- R601 to R603, R610, R615, R637: in the CPR step the first symbol of a frame opens the frame context and clears the held
symbols, the pilot accumulators and the phase reference; a pending frequency estimate takes effect and the mixer advances. A
frame cut before it is reported by an ABORT. The symbol is stored as header symbol 0, unless the frame is of the epoch that
failed: then it is dropped, and reported by an ABORT of its own. A later symbol of a dropped frame only advances the mixer, and a
symbol that continues no frame is ignored. The mixer's output stays in the model's latch `s1` (notes/assumptions/3.md). -/
def Obligations.FrameStartAndDrop : Prop :=
  (∀ (s : State) (it : Item45) (rest : List Item45),
    s.fifo.l45 = it :: rest → s.ctl.running = true → s.cpr.outq = [] → it.pos = 0 →
    let failed := s.cpr.failV && decide (it.ep = s.cpr.failEpoch)
    let f := if s.cpr.fPendV = true then s.cpr.fPend else s.cpr.fAct
    let s1 := cmul it.z (cisT (fneg s.cpr.psi))
    agentStep .cprStep s = .next { s with
      fifo := { s.fifo with l45 := rest }
      cpr := { s.cpr with
        fAct := f
        fPendV := false
        s1 := s1
        psi := wrapT (fadd s.cpr.psi f)
        fr := ⟨true, it.fid, it.ep, it.pls, frameLen it.pls, pilotBlocks it.pls, 1, failed⟩
        hold := []
        pacc := ⟨0#32, 0#32⟩
        pen := f0
        refT := f0
        refTh := f0
        failV := failed
        hraw := if failed = true then s.cpr.hraw else s.cpr.hraw.set 0 it.z
        hder := if failed = true then s.cpr.hder else s.cpr.hder.set 0 s1
        outq := (if s.cpr.fr.valid = true ∧ s.cpr.fr.drop = false then [.abort s.cpr.fr.fid] else [])
          ++ (if failed = true then [.abort it.fid] else []) }
      live := { s.live with
        freqEst := if s.cpr.fPendV = true then s.cpr.fPend else s.live.freqEst
        freqEstHz := if s.cpr.fPendV = true then fmul s.cpr.fPend s.act.cfg.symRate else s.live.freqEstHz } })
    ∧ (∀ (s : State) (it : Item45) (rest : List Item45),
      s.fifo.l45 = it :: rest → s.ctl.running = true → s.cpr.outq = [] → it.pos ≠ 0 →
      s.cpr.fr.valid = true → s.cpr.fr.drop = true → it.fid = s.cpr.fr.fid → it.pos = s.cpr.fr.next →
      agentStep .cprStep s = .next { s with
        fifo := { s.fifo with l45 := rest }
        cpr := { s.cpr with
          s1 := cmul it.z (cisT (fneg s.cpr.psi))
          psi := wrapT (fadd s.cpr.psi s.cpr.fAct)
          fr := { s.cpr.fr with next := it.pos + 1 } } })
    ∧ ∀ (s : State) (it : Item45) (rest : List Item45),
      s.fifo.l45 = it :: rest → s.ctl.running = true → s.cpr.outq = [] → it.pos ≠ 0 →
      s.cpr.fr.valid = false ∨ it.fid ≠ s.cpr.fr.fid ∨ it.pos ≠ s.cpr.fr.next →
      agentStep .cprStep s = .next { s with fifo := { s.fifo with l45 := rest } }

/-- R601, R602, R615, R616, R620: in the CPR step a later header symbol is stored before and after the mixer. The last one, at
position 89, adds the header's differential to the accumulator and counts the frame, makes an estimate of the accumulated
differential at every `PL_FREQ_EST_PERIOD`-th frame, and takes the header phase reference at frame position 44.5. The mixer's
output stays in the model's latch `s1` (notes/assumptions/3.md). -/
def Obligations.HeaderSymbolStep : Prop :=
  ∀ (s : State) (it : Item45) (rest : List Item45),
    s.fifo.l45 = it :: rest → s.ctl.running = true → s.cpr.outq = [] → it.pos ≠ 0 → it.pos < 90 →
    s.cpr.fr.valid = true → s.cpr.fr.drop = false → it.fid = s.cpr.fr.fid → it.pos = s.cpr.fr.next →
    let c := s.act.cfg
    let pls := s.cpr.fr.pls
    let s1 := cmul it.z (cisT (fneg s.cpr.psi))
    let raw := s.cpr.hraw.set it.pos it.z
    let der := s.cpr.hder.set it.pos s1
    let u := fun k : Nat => cmul (raw.getD k czero) (conj (href c pls k))
    let acc := cadd s.cpr.dAcc (csum ((List.range 89).map (fun k => cmul (u (k + 1)) (conj (u k)))))
    let estimates := s.cpr.nEst + 1#16 = c.plFreqEstPeriod
    let th := argT (csum ((List.range 90).map (fun k => cmul (der.getD k czero) (conj (href c pls k)))))
    let mixed := { s.cpr with
      s1 := s1
      psi := wrapT (fadd s.cpr.psi s.cpr.fAct)
      fr := { s.cpr.fr with next := it.pos + 1, valid := decide (it.pos + 1 ≠ s.cpr.fr.len) }
      hraw := raw
      hder := der }
    agentStep .cprStep s = .next
      (if it.pos ≠ 89 then { s with fifo := { s.fifo with l45 := rest }, cpr := mixed }
      else { s with
        fifo := { s.fifo with l45 := rest }
        cpr := { mixed with
          dAcc := if estimates then ⟨0#32, 0#32⟩ else acc
          nEst := if estimates then 0#16 else s.cpr.nEst + 1#16
          fPend := if estimates then argT acc else s.cpr.fPend
          fPendV := if estimates then true else s.cpr.fPendV
          freqValid := if estimates then true else s.cpr.freqValid
          refT := 0x42320000#32
          refTh := th }
        live := { s.live with phaseLast := th }
        ctl := { s.ctl with irqStatus := if estimates then s.ctl.irqStatus ||| 0x008#10 else s.ctl.irqStatus } })

/-- R600 to R602, R630, R631, R635, R636, R640: in the CPR step a pilot symbol of the current frame, compared with its scrambled
reference `PREF(i)`, adds to its block's correlation and energy. The last symbol of a block that is present releases the held
data symbols with the interpolated phase and makes the block the reference; that of a block that is absent drops and reports the
frame, marks its epoch and requests re-search. The mixer's output stays in the model's latch `s1` (notes/assumptions/3.md). -/
def Obligations.PilotSymbolStep : Prop :=
  ∀ (s : State) (it : Item45) (rest : List Item45) (blk o : Nat),
    s.fifo.l45 = it :: rest → s.ctl.running = true → s.cpr.outq = [] → it.pos ≠ 0 →
    s.cpr.fr.valid = true → s.cpr.fr.drop = false → it.fid = s.cpr.fr.fid → it.pos = s.cpr.fr.next →
    posClass s.cpr.fr.p it.pos = .pilot blk o →
    let s1 := cmul it.z (cisT (fneg s.cpr.psi))
    let acc := cadd s.cpr.pacc (cmul s1 (conj (rotq ⟨0x3F800000#32, 0x3F800000#32⟩ (goldR s.act.cfg.goldCode.toNat (it.pos - 90)))))
    let en := fadd s.cpr.pen (cnorm2 s1)
    let absent := flt f0 en = false ∨ flt (fdiv (cnorm2 acc) (fmul f72 en)) s.act.cfg.pilotThresh = true
    let tb := fadd (i2f ((90 + 1440 * (blk + 1) + 36 * blk : Nat) : Int)) f17h
    let thb := argT acc
    let phi := fun h : Held => wrapT (fadd s.cpr.refTh (fmul (wrapT (fsub thb s.cpr.refTh))
      (fdiv (fsub (i2f h.pos) s.cpr.refT) (fsub tb s.cpr.refT))))
    let mixed := { s.cpr with
      s1 := s1
      psi := wrapT (fadd s.cpr.psi s.cpr.fAct)
      fr := { s.cpr.fr with next := it.pos + 1, valid := decide (it.pos + 1 ≠ s.cpr.fr.len) } }
    agentStep .cprStep s = .next
      (if o ≠ 35 then { s with
        fifo := { s.fifo with l45 := rest }
        cpr := { mixed with pacc := acc, pen := en } }
      else if absent then { s with
        fifo := { s.fifo with l45 := rest }
        cpr := { mixed with
          pacc := acc
          pen := en
          hold := []
          fr := { mixed.fr with drop := true }
          outq := [.abort s.cpr.fr.fid]
          failV := true
          failEpoch := s.cpr.fr.ep }
        pls := { s.pls with cforce := true, cforceEp := s.cpr.fr.ep }
        cnt := { s.cnt with pilotFailCnt := s.cnt.pilotFailCnt + 1#32 }
        ctl := { s.ctl with irqStatus := s.ctl.irqStatus ||| 0x080#10 } }
      else { s with
        fifo := { s.fifo with l45 := rest }
        cpr := { mixed with
          pacc := ⟨0#32, 0#32⟩
          pen := f0
          hold := []
          refT := tb
          refTh := thb
          outq := s.cpr.hold.map (fun h =>
            .data (cmul h.s1 (cisT (fneg (phi h)))) s.cpr.fr.pls s.cpr.fr.fid h.didx (h.pos - 90)) }
        live := { s.live with phaseLast := thb } })

/-- R601, R621, R623: in the CPR step a data symbol of the current frame waits for the next reference while a pilot block
follows, and is otherwise forwarded at once with the last reference's phase, tagged with its data and payload indices. The
mixer's output stays in the model's latch `s1` (notes/assumptions/3.md). -/
def Obligations.DataSymbolHeldOrForwarded : Prop :=
  ∀ (s : State) (it : Item45) (rest : List Item45) (didx : Nat),
    s.fifo.l45 = it :: rest → s.ctl.running = true → s.cpr.outq = [] → it.pos ≠ 0 →
    s.cpr.fr.valid = true → s.cpr.fr.drop = false → it.fid = s.cpr.fr.fid → it.pos = s.cpr.fr.next →
    posClass s.cpr.fr.p it.pos = .data didx →
    let s1 := cmul it.z (cisT (fneg s.cpr.psi))
    let held := (it.pos - 90) / 1476 < s.cpr.fr.p
    agentStep .cprStep s = .next { s with
      fifo := { s.fifo with l45 := rest }
      cpr := { s.cpr with
        s1 := s1
        psi := wrapT (fadd s.cpr.psi s.cpr.fAct)
        fr := { s.cpr.fr with next := it.pos + 1, valid := decide (it.pos + 1 ≠ s.cpr.fr.len) }
        hold := if held then s.cpr.hold ++ [⟨s1, it.pos, didx⟩] else s.cpr.hold
        outq := if held then [] else
          [.data (cmul s1 (cisT (fneg s.cpr.refTh))) s.cpr.fr.pls s.cpr.fr.fid didx (it.pos - 90)] } }

/-! ## Stage 6 (45_descrambler_emitter.md) -/

/-- R700: the scrambling sequence: the first 18 values, the recurrences and the period of `x` and `y`, and `R_n(i)` made of
`z_n(i) = x((i + n) mod M) XOR y(i)` and of `z_n` 131072 places later. -/
def Obligations.GoldSequence : Prop :=
  goldX 0 = true ∧ (∀ i, 1 ≤ i → i ≤ 17 → goldX i = false) ∧ (∀ i, i ≤ 17 → goldY i = true)
    ∧ (∀ i, goldX (i + 18) = (goldX (i + 7) ^^ goldX i))
    ∧ (∀ i, goldY (i + 18) = (goldY (i + 10) ^^ goldY (i + 7) ^^ goldY (i + 5) ^^ goldY i))
    ∧ (∀ i, goldX (i + 262143) = goldX i ∧ goldY (i + 262143) = goldY i)
    ∧ ∀ n i : Nat,
      let z := fun j : Nat => goldX ((j + n) % 262143) ^^ goldY j
      (goldR n i).val = 2 * (z ((i + 131072) % 262143)).toNat + (z i).toNat

/-- R702: scrambling turns a symbol by `R_n(i)` quarters, descrambling by `(4 - R_n(i)) mod 4`, and descrambling undoes
scrambling bit for bit, for every Gold index, payload index and symbol; scrambling twice negates the symbol when `R` is 1 or 3,
and then is no involution. -/
def Obligations.DescrambleUndoesScramble : Prop :=
  ∀ (n i : Nat) (z : Cplx),
    scr n i z = rotq z (goldR n i)
      ∧ (∃ q : Fin 4, q.val = (4 - (goldR n i).val) % 4 ∧ dscr n i z = rotq z q)
      ∧ dscr n i (scr n i z) = z
      ∧ ((goldR n i).val % 2 = 1 → scr n i (scr n i z) = ⟨fneg z.re, fneg z.im⟩ ∧ scr n i (scr n i z) ≠ z)

/-- R711, R720: the DSC step. Data index 0 opens a frame record of `90 * S` symbols; a symbol that continues the record is
descrambled at its payload index and appended, and the last one completes it; any other data item is ignored. An ABORT empties
the record of its frame and counts one drop. -/
def Obligations.DscStepResult : Prop :=
  (∀ (s : State) (z : Cplx) (pls : BitVec 7) (fid : BitVec 32) (didx i : Nat) (rest : List Item56),
    s.fifo.l56 = .data z pls fid didx i :: rest → s.ctl.running = true → s.dsc.cur.done = false →
    let cur := if didx = 0 then ⟨true, fid, pls, 90 * slots pls, 0, [], false⟩ else s.dsc.cur
    exec .dscStep s = .next { s with
      fifo := { s.fifo with l56 := rest }
      dsc := { s.dsc with cur := if cur.valid = true ∧ fid = cur.fid ∧ didx = cur.n then
          { cur with
            sym := cur.sym ++ [dscr s.act.cfg.goldCode.toNat i z]
            n := cur.n + 1
            done := decide (cur.n + 1 = cur.count) }
        else cur } })
    ∧ ∀ (s : State) (fid : BitVec 32) (rest : List Item56),
      s.fifo.l56 = .abort fid :: rest → s.ctl.running = true → s.dsc.cur.done = false →
      exec .dscStep s = .next { s with
        fifo := { s.fifo with l56 := rest }
        dsc := { s.dsc with cur := if s.dsc.cur.valid = true ∧ s.dsc.cur.fid = fid then State.reset.dsc.cur else s.dsc.cur }
        cnt := { s.cnt with dropCnt := s.cnt.dropCnt + 1#32 }
        ctl := { s.ctl with irqStatus := s.ctl.irqStatus ||| 0x100#10 } }

/-! ## Events (60_exceptions.md) -/

/-- R802: setting an event's bit sets that bit of `IRQ_STATUS` whatever `IRQ_ENABLE` holds and changes nothing else; the
interrupt line is the or, over the ten events, of a pending bit and its enable bit. -/
def Obligations.InterruptLine : Prop :=
  (∀ (e : Event) (s : State),
    irqSet e s = { s with ctl := { s.ctl with irqStatus := (irqSet e s).ctl.irqStatus } }
      ∧ ∀ b, b < 10 → (irqSet e s).ctl.irqStatus.getLsbD b = (s.ctl.irqStatus.getLsbD b || decide (b = match e with
        | .lock => 0
        | .lockLost => 1
        | .frameOut => 2
        | .freqUpd => 3
        | .cfgFail => 4
        | .numeric => 5
        | .cmdErr => 6
        | .pilotFail => 7
        | .frameDrop => 8
        | .busErr => 9)))
    ∧ ∀ s : State, irqLine s = true ↔
      ∃ b, b < 10 ∧ s.ctl.irqStatus.getLsbD b = true ∧ s.ctl.irqEnable.getLsbD b = true

/-- R801: each event is raised only by the operations whose rules raise it. The bits of `IRQ_STATUS` are those of R40. That
FREQ_UPDATE and PILOT_SYMBOL also run alone is the model's choice (notes/assumptions/10.md). -/
def Obligations.EventsRaisedBySourcesOnly : Prop :=
  ∀ (s t : State) (a : Action), agentStep a s = .next t →
    (raises 0 s t → presents a .plsStep)
      ∧ (raises 1 s t → presents a .plsStep)
      ∧ (raises 2 s t → a = .drain .dsc)
      ∧ (raises 3 s t → a = .cprStep ∨ presents a .freqUpdate)
      ∧ (raises 4 s t → presents a .commit)
      ∧ (raises 5 s t → presents a .agcStep ∨ presents a .mfStep ∨ presents a .strStep)
      ∧ (raises 6 s t → presents a .commit ∨ presents a .start ∨ ∃ w, presents a (.reserved w))
      ∧ (raises 7 s t → a = .cprStep ∨ ∃ blk o z, presents a (.pilotSymbol blk o z))
      ∧ (raises 8 s t → presents a .plsStep ∨ presents a .dscStep)
      ∧ (raises 9 s t → (∃ off size, presents a (.csrRead off size)) ∨ ∃ off size w, presents a (.csrWrite off size w))

/-- R804, R806: nothing but a write to `IRQ_STATUS` and power-on reset clears a pending event, and `RUNNING` changes only by
START, STOP, SOFT_RESET and power-on reset. -/
def Obligations.PendingAndRunningPersist : Prop :=
  ∀ (s t : State) (a : Action), agentStep a s = .next t → a ≠ .powerOn →
    ((¬ ∃ w, presents a (.csrWrite 0x018#12 4 w)) →
      s.ctl.irqStatus &&& t.ctl.irqStatus = s.ctl.irqStatus)
      ∧ (t.ctl.running ≠ s.ctl.running → presents a .start ∨ presents a .stop ∨ presents a .softReset)

/-! ## Reset (70_reset_and_hazards.md) -/

/-- R900, R901, R43, R45 to R49: power-on reset answers the reset state from every state, whatever the block was doing; its
interrupt line is 0, its configuration is legal, and every register reads its reset value there. The agenda, which power-on
reset keeps, the ports and the latches are the model's (notes/assumptions/1.md, 3.md, 24.md). -/
def Obligations.PowerOnReset : Prop :=
  (∀ s : State, agentStep .powerOn s = .next { State.reset with agenda := s.agenda })
    ∧ irqLine State.reset = false ∧ cfgMask State.reset.shadow = 0#17
    ∧ ∀ r : Csr, csrValue State.reset r = match r with
    | .id => 0x44533252#32
    | .version => 0x00010007#32
    | .agcGain => 0x3F800000#32
    | .agcRate => 0x39800000#32
    | .agcRef => 0x3F800000#32
    | .agcGmin => 0x37800000#32
    | .agcGmax => 0x47800000#32
    | .rrcRolloff => 0x3E4CCCCD#32
    | .rrcDelay => 5#32
    | .rrcNfilts => 32#32
    | .sps => 0x40000000#32
    | .symRate => 0x49742400#32
    | .strDamping => 0x3F800000#32
    | .strLoopBw => 0x3C000000#32
    | .strTedGain => 0x3F800000#32
    | .strMaxDev => 0x3F000000#32
    | .modcod => 1#32
    | .plFreqEstPeriod => 8#32
    | .corrThresh => 0x3F000000#32
    | .lockLossN => 3#32
    | .plscMmN => 3#32
    | .plscMaxDist => 8#32
    | .pilotThresh => 0x3E800000#32
    | .agcGainCur => 0x3F800000#32
    | .strPeriodCur => 0x40000000#32
    | _ => 0#32

/-! ## Invariants every step keeps -/

/-- The reset state has every invariant. -/
def Obligations.ResetIsSafe : Prop := Safe State.reset

/-- R46, R47, R51; R37, R222, R803; R71, R110, R119: every step keeps the live registers equal to the unit state they copy; the
control invariant: the block runs only under a configuration COMMIT validated, whose derived coefficients are in place, and
`NUM_EVT` bits 3 to 9 stay 0; and the FIFO depths, the staging bounds of AGC, MF and STR and the delay line's length, which R902
gives what it holds and R63 the elements in use (notes/assumptions/14.md). That at most one symbol is staged by STR rests on
R406's bound (notes/assumptions/12.md). -/
def Obligations.StepKeepsRegistersAndBounds : Prop :=
  ∀ s t : State, step s = .next t →
    (MirrorInv s → MirrorInv t) ∧ (ControlInv s → ControlInv t) ∧ (FrontInv s → FrontInv t)

/-- R405, R406, R412: under finite loop gains every step keeps timing recovery's invariant: the integrator lies within
`±STR_MAX_DEV`, the period is finite and at least 1, both fractional positions lie in [0, 1), and every interpolant is
saturated. Finite gains are a premise (notes/assumptions/13.md). -/
def Obligations.StepKeepsTimingLoop : Prop :=
  ∀ s t : State, TimingInv s → isfinite s.act.kp = true → isfinite s.act.ki = true → step s = .next t → TimingInv t

/-- R65, R110, R520, R524 to R529: every step keeps the synchroniser's invariant. -/
def Obligations.StepKeepsSynchroniser : Prop := ∀ s t : State, PlsInv s → step s = .next t → PlsInv t

/-- R621, R110: every step keeps carrier recovery's bounds: `CPR.hold` never holds more than `SEG_BUF` symbols, and its staging
queue no more than `SEG_BUF + 1` items. -/
def Obligations.StepKeepsCarrierBounds : Prop := ∀ s t : State, CprInv s → step s = .next t → CprInv t

/-- R721 to R723: every step keeps the emitter's invariant: every frame in the output buffer is complete. -/
def Obligations.StepKeepsFramesComplete : Prop := ∀ s t : State, DscInv s → step s = .next t → DscInv t
end

