-- ==== Sys2Proof/Laws/State.lean ====
section
/-! SUPPORT. Laws/State.lean: what each shared update leaves in each group of state items: one lemma per group, true by
unfolding, so that no proof unfolds a record update. -/

namespace Sys2Proof.Laws

open Sys2Proof.Machine

/-! `irqSet`. -/

@[simp] theorem irqSet_shadow (e : Event) (s : State) : (irqSet e s).shadow = s.shadow := rfl
@[simp] theorem irqSet_act (e : Event) (s : State) : (irqSet e s).act = s.act := rfl
@[simp] theorem irqSet_ctl (e : Event) (s : State) :
    (irqSet e s).ctl = { s.ctl with irqStatus := s.ctl.irqStatus ||| eventMask e } := rfl
@[simp] theorem irqSet_cnt (e : Event) (s : State) : (irqSet e s).cnt = s.cnt := rfl
@[simp] theorem irqSet_holds (e : Event) (s : State) : (irqSet e s).holds = s.holds := rfl
@[simp] theorem irqSet_live (e : Event) (s : State) : (irqSet e s).live = s.live := rfl
@[simp] theorem irqSet_agc (e : Event) (s : State) : (irqSet e s).agc = s.agc := rfl
@[simp] theorem irqSet_mf (e : Event) (s : State) : (irqSet e s).mf = s.mf := rfl
@[simp] theorem irqSet_str (e : Event) (s : State) : (irqSet e s).str = s.str := rfl
@[simp] theorem irqSet_pls (e : Event) (s : State) : (irqSet e s).pls = s.pls := rfl
@[simp] theorem irqSet_cpr (e : Event) (s : State) : (irqSet e s).cpr = s.cpr := rfl
@[simp] theorem irqSet_dsc (e : Event) (s : State) : (irqSet e s).dsc = s.dsc := rfl
@[simp] theorem irqSet_fifo (e : Event) (s : State) : (irqSet e s).fifo = s.fifo := rfl
@[simp] theorem irqSet_port (e : Event) (s : State) : (irqSet e s).port = s.port := rfl
@[simp] theorem irqSet_agenda (e : Event) (s : State) : (irqSet e s).agenda = s.agenda := rfl

/-! `raiseNum`. -/

@[simp] theorem raiseNum_shadow (u : NumUnit) (s : State) : (raiseNum u s).shadow = s.shadow := rfl
@[simp] theorem raiseNum_act (u : NumUnit) (s : State) : (raiseNum u s).act = s.act := rfl
@[simp] theorem raiseNum_ctl (u : NumUnit) (s : State) :
    (raiseNum u s).ctl = { s.ctl with numEvt := s.ctl.numEvt ||| numMask u, irqStatus := s.ctl.irqStatus ||| 0x020#10 } := rfl
@[simp] theorem raiseNum_cnt (u : NumUnit) (s : State) : (raiseNum u s).cnt = s.cnt := rfl
@[simp] theorem raiseNum_holds (u : NumUnit) (s : State) : (raiseNum u s).holds = s.holds := rfl
@[simp] theorem raiseNum_live (u : NumUnit) (s : State) : (raiseNum u s).live = s.live := rfl
@[simp] theorem raiseNum_agc (u : NumUnit) (s : State) : (raiseNum u s).agc = s.agc := rfl
@[simp] theorem raiseNum_mf (u : NumUnit) (s : State) : (raiseNum u s).mf = s.mf := rfl
@[simp] theorem raiseNum_str (u : NumUnit) (s : State) : (raiseNum u s).str = s.str := rfl
@[simp] theorem raiseNum_pls (u : NumUnit) (s : State) : (raiseNum u s).pls = s.pls := rfl
@[simp] theorem raiseNum_cpr (u : NumUnit) (s : State) : (raiseNum u s).cpr = s.cpr := rfl
@[simp] theorem raiseNum_dsc (u : NumUnit) (s : State) : (raiseNum u s).dsc = s.dsc := rfl
@[simp] theorem raiseNum_fifo (u : NumUnit) (s : State) : (raiseNum u s).fifo = s.fifo := rfl
@[simp] theorem raiseNum_port (u : NumUnit) (s : State) : (raiseNum u s).port = s.port := rfl
@[simp] theorem raiseNum_agenda (u : NumUnit) (s : State) : (raiseNum u s).agenda = s.agenda := rfl

/-! `rejectCommand`. -/

@[simp] theorem rejectCommand_shadow (r : BitVec 2) (op : BitVec 8) (s : State) :
    (rejectCommand r op s).shadow = s.shadow := rfl
@[simp] theorem rejectCommand_act (r : BitVec 2) (op : BitVec 8) (s : State) : (rejectCommand r op s).act = s.act := rfl
@[simp] theorem rejectCommand_ctl (r : BitVec 2) (op : BitVec 8) (s : State) :
    (rejectCommand r op s).ctl = { s.ctl with cmdErrReason := r, cmdErrOpcode := op, irqStatus := s.ctl.irqStatus ||| 0x040#10 } := rfl
@[simp] theorem rejectCommand_cnt (r : BitVec 2) (op : BitVec 8) (s : State) : (rejectCommand r op s).cnt = s.cnt := rfl
@[simp] theorem rejectCommand_holds (r : BitVec 2) (op : BitVec 8) (s : State) : (rejectCommand r op s).holds = s.holds := rfl
@[simp] theorem rejectCommand_live (r : BitVec 2) (op : BitVec 8) (s : State) : (rejectCommand r op s).live = s.live := rfl
@[simp] theorem rejectCommand_agc (r : BitVec 2) (op : BitVec 8) (s : State) : (rejectCommand r op s).agc = s.agc := rfl
@[simp] theorem rejectCommand_mf (r : BitVec 2) (op : BitVec 8) (s : State) : (rejectCommand r op s).mf = s.mf := rfl
@[simp] theorem rejectCommand_str (r : BitVec 2) (op : BitVec 8) (s : State) : (rejectCommand r op s).str = s.str := rfl
@[simp] theorem rejectCommand_pls (r : BitVec 2) (op : BitVec 8) (s : State) : (rejectCommand r op s).pls = s.pls := rfl
@[simp] theorem rejectCommand_cpr (r : BitVec 2) (op : BitVec 8) (s : State) : (rejectCommand r op s).cpr = s.cpr := rfl
@[simp] theorem rejectCommand_dsc (r : BitVec 2) (op : BitVec 8) (s : State) : (rejectCommand r op s).dsc = s.dsc := rfl
@[simp] theorem rejectCommand_fifo (r : BitVec 2) (op : BitVec 8) (s : State) : (rejectCommand r op s).fifo = s.fifo := rfl
@[simp] theorem rejectCommand_port (r : BitVec 2) (op : BitVec 8) (s : State) : (rejectCommand r op s).port = s.port := rfl
@[simp] theorem rejectCommand_agenda (r : BitVec 2) (op : BitVec 8) (s : State) :
    (rejectCommand r op s).agenda = s.agenda := rfl

/-! `dropFrame`. -/

@[simp] theorem dropFrame_shadow (s : State) : (dropFrame s).shadow = s.shadow := rfl
@[simp] theorem dropFrame_act (s : State) : (dropFrame s).act = s.act := rfl
@[simp] theorem dropFrame_ctl (s : State) : (dropFrame s).ctl = { s.ctl with irqStatus := s.ctl.irqStatus ||| 0x100#10 } := rfl
@[simp] theorem dropFrame_cnt (s : State) : (dropFrame s).cnt = { s.cnt with dropCnt := s.cnt.dropCnt + 1#32 } := rfl
@[simp] theorem dropFrame_holds (s : State) : (dropFrame s).holds = s.holds := rfl
@[simp] theorem dropFrame_live (s : State) : (dropFrame s).live = s.live := rfl
@[simp] theorem dropFrame_agc (s : State) : (dropFrame s).agc = s.agc := rfl
@[simp] theorem dropFrame_mf (s : State) : (dropFrame s).mf = s.mf := rfl
@[simp] theorem dropFrame_str (s : State) : (dropFrame s).str = s.str := rfl
@[simp] theorem dropFrame_pls (s : State) : (dropFrame s).pls = s.pls := rfl
@[simp] theorem dropFrame_cpr (s : State) : (dropFrame s).cpr = s.cpr := rfl
@[simp] theorem dropFrame_dsc (s : State) : (dropFrame s).dsc = s.dsc := rfl
@[simp] theorem dropFrame_fifo (s : State) : (dropFrame s).fifo = s.fifo := rfl
@[simp] theorem dropFrame_port (s : State) : (dropFrame s).port = s.port := rfl
@[simp] theorem dropFrame_agenda (s : State) : (dropFrame s).agenda = s.agenda := rfl

/-! `answerWrite`. -/

@[simp] theorem answerWrite_shadow (b : Bool) (s : State) : (answerWrite b s).shadow = s.shadow := rfl
@[simp] theorem answerWrite_act (b : Bool) (s : State) : (answerWrite b s).act = s.act := rfl
@[simp] theorem answerWrite_ctl (b : Bool) (s : State) : (answerWrite b s).ctl = s.ctl := rfl
@[simp] theorem answerWrite_cnt (b : Bool) (s : State) : (answerWrite b s).cnt = s.cnt := rfl
@[simp] theorem answerWrite_holds (b : Bool) (s : State) : (answerWrite b s).holds = s.holds := rfl
@[simp] theorem answerWrite_live (b : Bool) (s : State) : (answerWrite b s).live = s.live := rfl
@[simp] theorem answerWrite_agc (b : Bool) (s : State) : (answerWrite b s).agc = s.agc := rfl
@[simp] theorem answerWrite_mf (b : Bool) (s : State) : (answerWrite b s).mf = s.mf := rfl
@[simp] theorem answerWrite_str (b : Bool) (s : State) : (answerWrite b s).str = s.str := rfl
@[simp] theorem answerWrite_pls (b : Bool) (s : State) : (answerWrite b s).pls = s.pls := rfl
@[simp] theorem answerWrite_cpr (b : Bool) (s : State) : (answerWrite b s).cpr = s.cpr := rfl
@[simp] theorem answerWrite_dsc (b : Bool) (s : State) : (answerWrite b s).dsc = s.dsc := rfl
@[simp] theorem answerWrite_fifo (b : Bool) (s : State) : (answerWrite b s).fifo = s.fifo := rfl
@[simp] theorem answerWrite_port (b : Bool) (s : State) :
    (answerWrite b s).port = { s.port with bus := ⟨b, Config.writeRdata s.port.writes⟩, writes := s.port.writes + 1 } := rfl
@[simp] theorem answerWrite_agenda (b : Bool) (s : State) : (answerWrite b s).agenda = s.agenda := rfl

/-! `answerOkay`. -/

@[simp] theorem answerOkay_shadow (s : State) : (answerOkay s).shadow = s.shadow := rfl
@[simp] theorem answerOkay_act (s : State) : (answerOkay s).act = s.act := rfl
@[simp] theorem answerOkay_ctl (s : State) : (answerOkay s).ctl = s.ctl := rfl
@[simp] theorem answerOkay_cnt (s : State) : (answerOkay s).cnt = s.cnt := rfl
@[simp] theorem answerOkay_holds (s : State) : (answerOkay s).holds = s.holds := rfl
@[simp] theorem answerOkay_live (s : State) : (answerOkay s).live = s.live := rfl
@[simp] theorem answerOkay_agc (s : State) : (answerOkay s).agc = s.agc := rfl
@[simp] theorem answerOkay_mf (s : State) : (answerOkay s).mf = s.mf := rfl
@[simp] theorem answerOkay_str (s : State) : (answerOkay s).str = s.str := rfl
@[simp] theorem answerOkay_pls (s : State) : (answerOkay s).pls = s.pls := rfl
@[simp] theorem answerOkay_cpr (s : State) : (answerOkay s).cpr = s.cpr := rfl
@[simp] theorem answerOkay_dsc (s : State) : (answerOkay s).dsc = s.dsc := rfl
@[simp] theorem answerOkay_fifo (s : State) : (answerOkay s).fifo = s.fifo := rfl
@[simp] theorem answerOkay_port (s : State) :
    (answerOkay s).port = { s.port with bus := ⟨true, Config.writeRdata s.port.writes⟩, writes := s.port.writes + 1 } := rfl
@[simp] theorem answerOkay_agenda (s : State) : (answerOkay s).agenda = s.agenda := rfl

/-! `readError`. -/

@[simp] theorem readError_shadow (s : State) : (readError s).shadow = s.shadow := rfl
@[simp] theorem readError_act (s : State) : (readError s).act = s.act := rfl
@[simp] theorem readError_ctl (s : State) : (readError s).ctl = { s.ctl with irqStatus := s.ctl.irqStatus ||| 0x200#10 } := rfl
@[simp] theorem readError_cnt (s : State) : (readError s).cnt = s.cnt := rfl
@[simp] theorem readError_holds (s : State) : (readError s).holds = s.holds := rfl
@[simp] theorem readError_live (s : State) : (readError s).live = s.live := rfl
@[simp] theorem readError_agc (s : State) : (readError s).agc = s.agc := rfl
@[simp] theorem readError_mf (s : State) : (readError s).mf = s.mf := rfl
@[simp] theorem readError_str (s : State) : (readError s).str = s.str := rfl
@[simp] theorem readError_pls (s : State) : (readError s).pls = s.pls := rfl
@[simp] theorem readError_cpr (s : State) : (readError s).cpr = s.cpr := rfl
@[simp] theorem readError_dsc (s : State) : (readError s).dsc = s.dsc := rfl
@[simp] theorem readError_fifo (s : State) : (readError s).fifo = s.fifo := rfl
@[simp] theorem readError_port (s : State) : (readError s).port = { s.port with bus := ⟨false, 0#32⟩ } := rfl
@[simp] theorem readError_agenda (s : State) : (readError s).agenda = s.agenda := rfl

/-! `writeError`. -/

@[simp] theorem writeError_shadow (s : State) : (writeError s).shadow = s.shadow := rfl
@[simp] theorem writeError_act (s : State) : (writeError s).act = s.act := rfl
@[simp] theorem writeError_ctl (s : State) :
    (writeError s).ctl = { s.ctl with irqStatus := s.ctl.irqStatus ||| 0x200#10 } := rfl
@[simp] theorem writeError_cnt (s : State) : (writeError s).cnt = s.cnt := rfl
@[simp] theorem writeError_holds (s : State) : (writeError s).holds = s.holds := rfl
@[simp] theorem writeError_live (s : State) : (writeError s).live = s.live := rfl
@[simp] theorem writeError_agc (s : State) : (writeError s).agc = s.agc := rfl
@[simp] theorem writeError_mf (s : State) : (writeError s).mf = s.mf := rfl
@[simp] theorem writeError_str (s : State) : (writeError s).str = s.str := rfl
@[simp] theorem writeError_pls (s : State) : (writeError s).pls = s.pls := rfl
@[simp] theorem writeError_cpr (s : State) : (writeError s).cpr = s.cpr := rfl
@[simp] theorem writeError_dsc (s : State) : (writeError s).dsc = s.dsc := rfl
@[simp] theorem writeError_fifo (s : State) : (writeError s).fifo = s.fifo := rfl
@[simp] theorem writeError_port (s : State) :
    (writeError s).port = { s.port with bus := ⟨false, Config.writeRdata s.port.writes⟩, writes := s.port.writes + 1 } := rfl
@[simp] theorem writeError_agenda (s : State) : (writeError s).agenda = s.agenda := rfl

/-! `resetUnits`. -/

@[simp] theorem resetUnits_shadow (s : State) : (resetUnits s).shadow = s.shadow := rfl
@[simp] theorem resetUnits_act (s : State) : (resetUnits s).act = s.act := rfl
@[simp] theorem resetUnits_ctl (s : State) : (resetUnits s).ctl = s.ctl := rfl
@[simp] theorem resetUnits_cnt (s : State) : (resetUnits s).cnt = s.cnt := rfl
@[simp] theorem resetUnits_holds (s : State) : (resetUnits s).holds = ⟨0#32, 0#32, 0#32, 0#32⟩ := rfl
@[simp] theorem resetUnits_live (s : State) : (resetUnits s).live = liveReset s.act := rfl
@[simp] theorem resetUnits_agc (s : State) : (resetUnits s).agc = agcReset s.act := rfl
@[simp] theorem resetUnits_mf (s : State) : (resetUnits s).mf = mfReset s.act := rfl
@[simp] theorem resetUnits_str (s : State) : (resetUnits s).str = strReset s.act := rfl
@[simp] theorem resetUnits_pls (s : State) : (resetUnits s).pls = plsReset := rfl
@[simp] theorem resetUnits_cpr (s : State) : (resetUnits s).cpr = cprReset := rfl
@[simp] theorem resetUnits_dsc (s : State) : (resetUnits s).dsc = { s.dsc with cur := curEmpty } := rfl
@[simp] theorem resetUnits_fifo (s : State) : (resetUnits s).fifo = fifosReset := rfl
@[simp] theorem resetUnits_port (s : State) : (resetUnits s).port = s.port := rfl
@[simp] theorem resetUnits_agenda (s : State) : (resetUnits s).agenda = s.agenda := rfl

/-! `hdrTest`. -/

@[simp] theorem hdrTest_shadow (s : State) : (hdrTest s).shadow = s.shadow := rfl
@[simp] theorem hdrTest_act (s : State) : (hdrTest s).act = s.act := rfl
@[simp] theorem hdrTest_ctl (s : State) : (hdrTest s).ctl = s.ctl := rfl
@[simp] theorem hdrTest_cnt (s : State) : (hdrTest s).cnt = s.cnt := rfl
@[simp] theorem hdrTest_holds (s : State) : (hdrTest s).holds = s.holds := rfl
@[simp] theorem hdrTest_live (s : State) : (hdrTest s).live = { s.live with corrLast := headerRatio s.act.cfg s.pls.w } := rfl
@[simp] theorem hdrTest_agc (s : State) : (hdrTest s).agc = s.agc := rfl
@[simp] theorem hdrTest_mf (s : State) : (hdrTest s).mf = s.mf := rfl
@[simp] theorem hdrTest_str (s : State) : (hdrTest s).str = s.str := rfl
@[simp] theorem hdrTest_pls (s : State) : (hdrTest s).pls = { s.pls with hit := headerHit s.act.cfg s.pls.w } := rfl
@[simp] theorem hdrTest_cpr (s : State) : (hdrTest s).cpr = s.cpr := rfl
@[simp] theorem hdrTest_dsc (s : State) : (hdrTest s).dsc = s.dsc := rfl
@[simp] theorem hdrTest_fifo (s : State) : (hdrTest s).fifo = s.fifo := rfl
@[simp] theorem hdrTest_port (s : State) : (hdrTest s).port = s.port := rfl
@[simp] theorem hdrTest_agenda (s : State) : (hdrTest s).agenda = s.agenda := rfl

/-! `hdrDecode`. -/

@[simp] theorem hdrDecode_shadow (s : State) : (hdrDecode s).shadow = s.shadow := rfl
@[simp] theorem hdrDecode_act (s : State) : (hdrDecode s).act = s.act := rfl
@[simp] theorem hdrDecode_ctl (s : State) : (hdrDecode s).ctl = s.ctl := rfl
@[simp] theorem hdrDecode_cnt (s : State) : (hdrDecode s).cnt = s.cnt := rfl
@[simp] theorem hdrDecode_holds (s : State) : (hdrDecode s).holds = s.holds := rfl
@[simp] theorem hdrDecode_agc (s : State) : (hdrDecode s).agc = s.agc := rfl
@[simp] theorem hdrDecode_mf (s : State) : (hdrDecode s).mf = s.mf := rfl
@[simp] theorem hdrDecode_str (s : State) : (hdrDecode s).str = s.str := rfl
@[simp] theorem hdrDecode_pls (s : State) :
    (hdrDecode s).pls = { s.pls with dec := decideWord s.act.cfg (headerWord s.act.cfg s.pls.w) } := rfl
@[simp] theorem hdrDecode_cpr (s : State) : (hdrDecode s).cpr = s.cpr := rfl
@[simp] theorem hdrDecode_dsc (s : State) : (hdrDecode s).dsc = s.dsc := rfl
@[simp] theorem hdrDecode_fifo (s : State) : (hdrDecode s).fifo = s.fifo := rfl
@[simp] theorem hdrDecode_port (s : State) : (hdrDecode s).port = s.port := rfl
@[simp] theorem hdrDecode_agenda (s : State) : (hdrDecode s).agenda = s.agenda := rfl

/-! `lastHdr`. -/

@[simp] theorem lastHdr_shadow (sym0 smp0 : Idx) (s : State) : (lastHdr sym0 smp0 s).shadow = s.shadow := rfl
@[simp] theorem lastHdr_act (sym0 smp0 : Idx) (s : State) : (lastHdr sym0 smp0 s).act = s.act := rfl
@[simp] theorem lastHdr_ctl (sym0 smp0 : Idx) (s : State) : (lastHdr sym0 smp0 s).ctl = s.ctl := rfl
@[simp] theorem lastHdr_cnt (sym0 smp0 : Idx) (s : State) : (lastHdr sym0 smp0 s).cnt = s.cnt := rfl
@[simp] theorem lastHdr_holds (sym0 smp0 : Idx) (s : State) : (lastHdr sym0 smp0 s).holds = s.holds := rfl
@[simp] theorem lastHdr_live (sym0 smp0 : Idx) (s : State) :
    (lastHdr sym0 smp0 s).live = { s.live with lastHdrSym := sym0, lastHdrSmp := smp0 } := rfl
@[simp] theorem lastHdr_agc (sym0 smp0 : Idx) (s : State) : (lastHdr sym0 smp0 s).agc = s.agc := rfl
@[simp] theorem lastHdr_mf (sym0 smp0 : Idx) (s : State) : (lastHdr sym0 smp0 s).mf = s.mf := rfl
@[simp] theorem lastHdr_str (sym0 smp0 : Idx) (s : State) : (lastHdr sym0 smp0 s).str = s.str := rfl
@[simp] theorem lastHdr_pls (sym0 smp0 : Idx) (s : State) : (lastHdr sym0 smp0 s).pls = s.pls := rfl
@[simp] theorem lastHdr_cpr (sym0 smp0 : Idx) (s : State) : (lastHdr sym0 smp0 s).cpr = s.cpr := rfl
@[simp] theorem lastHdr_dsc (sym0 smp0 : Idx) (s : State) : (lastHdr sym0 smp0 s).dsc = s.dsc := rfl
@[simp] theorem lastHdr_fifo (sym0 smp0 : Idx) (s : State) : (lastHdr sym0 smp0 s).fifo = s.fifo := rfl
@[simp] theorem lastHdr_port (sym0 smp0 : Idx) (s : State) : (lastHdr sym0 smp0 s).port = s.port := rfl
@[simp] theorem lastHdr_agenda (sym0 smp0 : Idx) (s : State) : (lastHdr sym0 smp0 s).agenda = s.agenda := rfl

/-! `enterSearch`. -/

@[simp] theorem enterSearch_shadow (s : State) : (enterSearch s).shadow = s.shadow := rfl
@[simp] theorem enterSearch_act (s : State) : (enterSearch s).act = s.act := rfl
@[simp] theorem enterSearch_ctl (s : State) :
    (enterSearch s).ctl = { s.ctl with irqStatus := s.ctl.irqStatus ||| 0x002#10 } := rfl
@[simp] theorem enterSearch_cnt (s : State) : (enterSearch s).cnt = { s.cnt with lossCnt := s.cnt.lossCnt + 1#32 } := rfl
@[simp] theorem enterSearch_holds (s : State) : (enterSearch s).holds = s.holds := rfl
@[simp] theorem enterSearch_live (s : State) : (enterSearch s).live = { s.live with frameLen := 0#16 } := rfl
@[simp] theorem enterSearch_agc (s : State) : (enterSearch s).agc = s.agc := rfl
@[simp] theorem enterSearch_mf (s : State) : (enterSearch s).mf = s.mf := rfl
@[simp] theorem enterSearch_str (s : State) : (enterSearch s).str = s.str := rfl
@[simp] theorem enterSearch_cpr (s : State) : (enterSearch s).cpr = s.cpr := rfl
@[simp] theorem enterSearch_dsc (s : State) : (enterSearch s).dsc = s.dsc := rfl
@[simp] theorem enterSearch_fifo (s : State) : (enterSearch s).fifo = s.fifo := rfl
@[simp] theorem enterSearch_port (s : State) : (enterSearch s).port = s.port := rfl
@[simp] theorem enterSearch_agenda (s : State) : (enterSearch s).agenda = s.agenda := rfl

/-! `slide`. -/

@[simp] theorem slide_shadow (y : Cplx) (smp : Idx) (s : State) : (slide y smp s).shadow = s.shadow := rfl
@[simp] theorem slide_act (y : Cplx) (smp : Idx) (s : State) : (slide y smp s).act = s.act := rfl
@[simp] theorem slide_ctl (y : Cplx) (smp : Idx) (s : State) : (slide y smp s).ctl = s.ctl := rfl
@[simp] theorem slide_cnt (y : Cplx) (smp : Idx) (s : State) : (slide y smp s).cnt = s.cnt := rfl
@[simp] theorem slide_holds (y : Cplx) (smp : Idx) (s : State) : (slide y smp s).holds = s.holds := rfl
@[simp] theorem slide_live (y : Cplx) (smp : Idx) (s : State) : (slide y smp s).live = s.live := rfl
@[simp] theorem slide_agc (y : Cplx) (smp : Idx) (s : State) : (slide y smp s).agc = s.agc := rfl
@[simp] theorem slide_mf (y : Cplx) (smp : Idx) (s : State) : (slide y smp s).mf = s.mf := rfl
@[simp] theorem slide_str (y : Cplx) (smp : Idx) (s : State) : (slide y smp s).str = s.str := rfl
@[simp] theorem slide_pls (y : Cplx) (smp : Idx) (s : State) :
    (slide y smp s).pls = { s.pls with w := s.pls.w.drop 1 ++ [y], wsmp := s.pls.wsmp.drop 1 ++ [smp], fill := min (s.pls.fill + 1) 90 } := rfl
@[simp] theorem slide_cpr (y : Cplx) (smp : Idx) (s : State) : (slide y smp s).cpr = s.cpr := rfl
@[simp] theorem slide_dsc (y : Cplx) (smp : Idx) (s : State) : (slide y smp s).dsc = s.dsc := rfl
@[simp] theorem slide_fifo (y : Cplx) (smp : Idx) (s : State) : (slide y smp s).fifo = s.fifo := rfl
@[simp] theorem slide_port (y : Cplx) (smp : Idx) (s : State) : (slide y smp s).port = s.port := rfl
@[simp] theorem slide_agenda (y : Cplx) (smp : Idx) (s : State) : (slide y smp s).agenda = s.agenda := rfl

/-! `emit`. -/

@[simp] theorem emit_shadow (z : Cplx) (smp : Idx) (pos : Nat) (s : State) : (emit z smp pos s).shadow = s.shadow := rfl
@[simp] theorem emit_act (z : Cplx) (smp : Idx) (pos : Nat) (s : State) : (emit z smp pos s).act = s.act := rfl
@[simp] theorem emit_ctl (z : Cplx) (smp : Idx) (pos : Nat) (s : State) : (emit z smp pos s).ctl = s.ctl := rfl
@[simp] theorem emit_cnt (z : Cplx) (smp : Idx) (pos : Nat) (s : State) : (emit z smp pos s).cnt = s.cnt := rfl
@[simp] theorem emit_holds (z : Cplx) (smp : Idx) (pos : Nat) (s : State) : (emit z smp pos s).holds = s.holds := rfl
@[simp] theorem emit_live (z : Cplx) (smp : Idx) (pos : Nat) (s : State) : (emit z smp pos s).live = s.live := rfl
@[simp] theorem emit_agc (z : Cplx) (smp : Idx) (pos : Nat) (s : State) : (emit z smp pos s).agc = s.agc := rfl
@[simp] theorem emit_mf (z : Cplx) (smp : Idx) (pos : Nat) (s : State) : (emit z smp pos s).mf = s.mf := rfl
@[simp] theorem emit_str (z : Cplx) (smp : Idx) (pos : Nat) (s : State) : (emit z smp pos s).str = s.str := rfl
@[simp] theorem emit_pls (z : Cplx) (smp : Idx) (pos : Nat) (s : State) :
    (emit z smp pos s).pls = { s.pls with outq := s.pls.outq ++ [⟨z, smp, s.pls.epoch, s.pls.fid, s.pls.curPls, pos⟩] } := rfl
@[simp] theorem emit_cpr (z : Cplx) (smp : Idx) (pos : Nat) (s : State) : (emit z smp pos s).cpr = s.cpr := rfl
@[simp] theorem emit_dsc (z : Cplx) (smp : Idx) (pos : Nat) (s : State) : (emit z smp pos s).dsc = s.dsc := rfl
@[simp] theorem emit_fifo (z : Cplx) (smp : Idx) (pos : Nat) (s : State) : (emit z smp pos s).fifo = s.fifo := rfl
@[simp] theorem emit_port (z : Cplx) (smp : Idx) (pos : Nat) (s : State) : (emit z smp pos s).port = s.port := rfl
@[simp] theorem emit_agenda (z : Cplx) (smp : Idx) (pos : Nat) (s : State) : (emit z smp pos s).agenda = s.agenda := rfl

/-! `countSymbol`. -/

@[simp] theorem countSymbol_shadow (s : State) : (countSymbol s).shadow = s.shadow := rfl
@[simp] theorem countSymbol_act (s : State) : (countSymbol s).act = s.act := rfl
@[simp] theorem countSymbol_ctl (s : State) : (countSymbol s).ctl = s.ctl := rfl
@[simp] theorem countSymbol_cnt (s : State) : (countSymbol s).cnt = s.cnt := rfl
@[simp] theorem countSymbol_holds (s : State) : (countSymbol s).holds = s.holds := rfl
@[simp] theorem countSymbol_live (s : State) : (countSymbol s).live = s.live := rfl
@[simp] theorem countSymbol_agc (s : State) : (countSymbol s).agc = s.agc := rfl
@[simp] theorem countSymbol_mf (s : State) : (countSymbol s).mf = s.mf := rfl
@[simp] theorem countSymbol_str (s : State) : (countSymbol s).str = s.str := rfl
@[simp] theorem countSymbol_pls (s : State) : (countSymbol s).pls = { s.pls with symbolIdx := s.pls.symbolIdx + 1#64 } := rfl
@[simp] theorem countSymbol_cpr (s : State) : (countSymbol s).cpr = s.cpr := rfl
@[simp] theorem countSymbol_dsc (s : State) : (countSymbol s).dsc = s.dsc := rfl
@[simp] theorem countSymbol_fifo (s : State) : (countSymbol s).fifo = s.fifo := rfl
@[simp] theorem countSymbol_port (s : State) : (countSymbol s).port = s.port := rfl
@[simp] theorem countSymbol_agenda (s : State) : (countSymbol s).agenda = s.agenda := rfl

/-! `clearPend`. -/

@[simp] theorem clearPend_shadow (s : State) : (clearPend s).shadow = s.shadow := rfl
@[simp] theorem clearPend_act (s : State) : (clearPend s).act = s.act := rfl
@[simp] theorem clearPend_ctl (s : State) : (clearPend s).ctl = s.ctl := rfl
@[simp] theorem clearPend_cnt (s : State) : (clearPend s).cnt = s.cnt := rfl
@[simp] theorem clearPend_holds (s : State) : (clearPend s).holds = s.holds := rfl
@[simp] theorem clearPend_live (s : State) : (clearPend s).live = s.live := rfl
@[simp] theorem clearPend_agc (s : State) : (clearPend s).agc = s.agc := rfl
@[simp] theorem clearPend_mf (s : State) : (clearPend s).mf = s.mf := rfl
@[simp] theorem clearPend_str (s : State) : (clearPend s).str = s.str := rfl
@[simp] theorem clearPend_pls (s : State) : (clearPend s).pls = { s.pls with pend := none } := rfl
@[simp] theorem clearPend_cpr (s : State) : (clearPend s).cpr = s.cpr := rfl
@[simp] theorem clearPend_dsc (s : State) : (clearPend s).dsc = s.dsc := rfl
@[simp] theorem clearPend_fifo (s : State) : (clearPend s).fifo = s.fifo := rfl
@[simp] theorem clearPend_port (s : State) : (clearPend s).port = s.port := rfl
@[simp] theorem clearPend_agenda (s : State) : (clearPend s).agenda = s.agenda := rfl

/-! `trackFrame`. -/

@[simp] theorem trackFrame_shadow (p : BitVec 7) (s : State) : (trackFrame p s).shadow = s.shadow := rfl
@[simp] theorem trackFrame_act (p : BitVec 7) (s : State) : (trackFrame p s).act = s.act := rfl
@[simp] theorem trackFrame_ctl (p : BitVec 7) (s : State) : (trackFrame p s).ctl = s.ctl := rfl
@[simp] theorem trackFrame_cnt (p : BitVec 7) (s : State) : (trackFrame p s).cnt = s.cnt := rfl
@[simp] theorem trackFrame_holds (p : BitVec 7) (s : State) : (trackFrame p s).holds = s.holds := rfl
@[simp] theorem trackFrame_live (p : BitVec 7) (s : State) :
    (trackFrame p s).live = { s.live with frameLen := BitVec.ofNat 16 (frameLen p) } := rfl
@[simp] theorem trackFrame_agc (p : BitVec 7) (s : State) : (trackFrame p s).agc = s.agc := rfl
@[simp] theorem trackFrame_mf (p : BitVec 7) (s : State) : (trackFrame p s).mf = s.mf := rfl
@[simp] theorem trackFrame_str (p : BitVec 7) (s : State) : (trackFrame p s).str = s.str := rfl
@[simp] theorem trackFrame_pls (p : BitVec 7) (s : State) :
    (trackFrame p s).pls = { s.pls with curPls := p, curLen := frameLen p, cnt := frameLen p } := rfl
@[simp] theorem trackFrame_cpr (p : BitVec 7) (s : State) : (trackFrame p s).cpr = s.cpr := rfl
@[simp] theorem trackFrame_dsc (p : BitVec 7) (s : State) : (trackFrame p s).dsc = s.dsc := rfl
@[simp] theorem trackFrame_fifo (p : BitVec 7) (s : State) : (trackFrame p s).fifo = s.fifo := rfl
@[simp] theorem trackFrame_port (p : BitVec 7) (s : State) : (trackFrame p s).port = s.port := rfl
@[simp] theorem trackFrame_agenda (p : BitVec 7) (s : State) : (trackFrame p s).agenda = s.agenda := rfl

/-! `applyFreq`. -/

@[simp] theorem applyFreq_shadow (s : State) : (applyFreq s).shadow = s.shadow := rfl
@[simp] theorem applyFreq_act (s : State) : (applyFreq s).act = s.act := rfl
@[simp] theorem applyFreq_ctl (s : State) : (applyFreq s).ctl = s.ctl := rfl
@[simp] theorem applyFreq_cnt (s : State) : (applyFreq s).cnt = s.cnt := rfl
@[simp] theorem applyFreq_holds (s : State) : (applyFreq s).holds = s.holds := rfl
@[simp] theorem applyFreq_live (s : State) :
    (applyFreq s).live = { s.live with freqEst := s.cpr.fPend, freqEstHz := fmul s.cpr.fPend s.act.cfg.symRate } := rfl
@[simp] theorem applyFreq_agc (s : State) : (applyFreq s).agc = s.agc := rfl
@[simp] theorem applyFreq_mf (s : State) : (applyFreq s).mf = s.mf := rfl
@[simp] theorem applyFreq_str (s : State) : (applyFreq s).str = s.str := rfl
@[simp] theorem applyFreq_pls (s : State) : (applyFreq s).pls = s.pls := rfl
@[simp] theorem applyFreq_cpr (s : State) : (applyFreq s).cpr = { s.cpr with fAct := s.cpr.fPend, fPendV := false } := rfl
@[simp] theorem applyFreq_dsc (s : State) : (applyFreq s).dsc = s.dsc := rfl
@[simp] theorem applyFreq_fifo (s : State) : (applyFreq s).fifo = s.fifo := rfl
@[simp] theorem applyFreq_port (s : State) : (applyFreq s).port = s.port := rfl
@[simp] theorem applyFreq_agenda (s : State) : (applyFreq s).agenda = s.agenda := rfl

/-! `emit56`. -/

@[simp] theorem emit56_shadow (it : Item56) (s : State) : (emit56 it s).shadow = s.shadow := rfl
@[simp] theorem emit56_act (it : Item56) (s : State) : (emit56 it s).act = s.act := rfl
@[simp] theorem emit56_ctl (it : Item56) (s : State) : (emit56 it s).ctl = s.ctl := rfl
@[simp] theorem emit56_cnt (it : Item56) (s : State) : (emit56 it s).cnt = s.cnt := rfl
@[simp] theorem emit56_holds (it : Item56) (s : State) : (emit56 it s).holds = s.holds := rfl
@[simp] theorem emit56_live (it : Item56) (s : State) : (emit56 it s).live = s.live := rfl
@[simp] theorem emit56_agc (it : Item56) (s : State) : (emit56 it s).agc = s.agc := rfl
@[simp] theorem emit56_mf (it : Item56) (s : State) : (emit56 it s).mf = s.mf := rfl
@[simp] theorem emit56_str (it : Item56) (s : State) : (emit56 it s).str = s.str := rfl
@[simp] theorem emit56_pls (it : Item56) (s : State) : (emit56 it s).pls = s.pls := rfl
@[simp] theorem emit56_cpr (it : Item56) (s : State) : (emit56 it s).cpr = { s.cpr with outq := s.cpr.outq ++ [it] } := rfl
@[simp] theorem emit56_dsc (it : Item56) (s : State) : (emit56 it s).dsc = s.dsc := rfl
@[simp] theorem emit56_fifo (it : Item56) (s : State) : (emit56 it s).fifo = s.fifo := rfl
@[simp] theorem emit56_port (it : Item56) (s : State) : (emit56 it s).port = s.port := rfl
@[simp] theorem emit56_agenda (it : Item56) (s : State) : (emit56 it s).agenda = s.agenda := rfl

/-! `openFrame`. -/

@[simp] theorem openFrame_shadow (it : Item45) (s : State) : (openFrame it s).shadow = s.shadow := rfl
@[simp] theorem openFrame_act (it : Item45) (s : State) : (openFrame it s).act = s.act := rfl
@[simp] theorem openFrame_ctl (it : Item45) (s : State) : (openFrame it s).ctl = s.ctl := rfl
@[simp] theorem openFrame_cnt (it : Item45) (s : State) : (openFrame it s).cnt = s.cnt := rfl
@[simp] theorem openFrame_holds (it : Item45) (s : State) : (openFrame it s).holds = s.holds := rfl
@[simp] theorem openFrame_live (it : Item45) (s : State) : (openFrame it s).live = s.live := rfl
@[simp] theorem openFrame_agc (it : Item45) (s : State) : (openFrame it s).agc = s.agc := rfl
@[simp] theorem openFrame_mf (it : Item45) (s : State) : (openFrame it s).mf = s.mf := rfl
@[simp] theorem openFrame_str (it : Item45) (s : State) : (openFrame it s).str = s.str := rfl
@[simp] theorem openFrame_pls (it : Item45) (s : State) : (openFrame it s).pls = s.pls := rfl
@[simp] theorem openFrame_dsc (it : Item45) (s : State) : (openFrame it s).dsc = s.dsc := rfl
@[simp] theorem openFrame_fifo (it : Item45) (s : State) : (openFrame it s).fifo = s.fifo := rfl
@[simp] theorem openFrame_port (it : Item45) (s : State) : (openFrame it s).port = s.port := rfl
@[simp] theorem openFrame_agenda (it : Item45) (s : State) : (openFrame it s).agenda = s.agenda := rfl

/-! `freqUpdate`. -/

@[simp] theorem freqUpdate_shadow (s : State) : (freqUpdate s).shadow = s.shadow := rfl
@[simp] theorem freqUpdate_act (s : State) : (freqUpdate s).act = s.act := rfl
@[simp] theorem freqUpdate_ctl (s : State) :
    (freqUpdate s).ctl = { s.ctl with irqStatus := s.ctl.irqStatus ||| 0x008#10 } := rfl
@[simp] theorem freqUpdate_cnt (s : State) : (freqUpdate s).cnt = s.cnt := rfl
@[simp] theorem freqUpdate_holds (s : State) : (freqUpdate s).holds = s.holds := rfl
@[simp] theorem freqUpdate_live (s : State) : (freqUpdate s).live = s.live := rfl
@[simp] theorem freqUpdate_agc (s : State) : (freqUpdate s).agc = s.agc := rfl
@[simp] theorem freqUpdate_mf (s : State) : (freqUpdate s).mf = s.mf := rfl
@[simp] theorem freqUpdate_str (s : State) : (freqUpdate s).str = s.str := rfl
@[simp] theorem freqUpdate_pls (s : State) : (freqUpdate s).pls = s.pls := rfl
@[simp] theorem freqUpdate_cpr (s : State) :
    (freqUpdate s).cpr = { s.cpr with fPend := argT s.cpr.dAcc, fPendV := true, dAcc := czero, nEst := 0#16, freqValid := true } := rfl
@[simp] theorem freqUpdate_dsc (s : State) : (freqUpdate s).dsc = s.dsc := rfl
@[simp] theorem freqUpdate_fifo (s : State) : (freqUpdate s).fifo = s.fifo := rfl
@[simp] theorem freqUpdate_port (s : State) : (freqUpdate s).port = s.port := rfl
@[simp] theorem freqUpdate_agenda (s : State) : (freqUpdate s).agenda = s.agenda := rfl

/-! `phaseRef`. -/

@[simp] theorem phaseRef_shadow (s : State) : (phaseRef s).shadow = s.shadow := rfl
@[simp] theorem phaseRef_act (s : State) : (phaseRef s).act = s.act := rfl
@[simp] theorem phaseRef_ctl (s : State) : (phaseRef s).ctl = s.ctl := rfl
@[simp] theorem phaseRef_cnt (s : State) : (phaseRef s).cnt = s.cnt := rfl
@[simp] theorem phaseRef_holds (s : State) : (phaseRef s).holds = s.holds := rfl
@[simp] theorem phaseRef_live (s : State) :
    (phaseRef s).live = { s.live with phaseLast := headerTheta s.act.cfg s.cpr.fr.pls s.cpr.hder } := rfl
@[simp] theorem phaseRef_agc (s : State) : (phaseRef s).agc = s.agc := rfl
@[simp] theorem phaseRef_mf (s : State) : (phaseRef s).mf = s.mf := rfl
@[simp] theorem phaseRef_str (s : State) : (phaseRef s).str = s.str := rfl
@[simp] theorem phaseRef_pls (s : State) : (phaseRef s).pls = s.pls := rfl
@[simp] theorem phaseRef_cpr (s : State) :
    (phaseRef s).cpr = { s.cpr with refT := f44h, refTh := headerTheta s.act.cfg s.cpr.fr.pls s.cpr.hder } := rfl
@[simp] theorem phaseRef_dsc (s : State) : (phaseRef s).dsc = s.dsc := rfl
@[simp] theorem phaseRef_fifo (s : State) : (phaseRef s).fifo = s.fifo := rfl
@[simp] theorem phaseRef_port (s : State) : (phaseRef s).port = s.port := rfl
@[simp] theorem phaseRef_agenda (s : State) : (phaseRef s).agenda = s.agenda := rfl

/-! `storeHeader`. -/

@[simp] theorem storeHeader_shadow (z s1 : Cplx) (pos : Nat) (s : State) : (storeHeader z s1 pos s).shadow = s.shadow := rfl
@[simp] theorem storeHeader_act (z s1 : Cplx) (pos : Nat) (s : State) : (storeHeader z s1 pos s).act = s.act := rfl
@[simp] theorem storeHeader_ctl (z s1 : Cplx) (pos : Nat) (s : State) : (storeHeader z s1 pos s).ctl = s.ctl := rfl
@[simp] theorem storeHeader_cnt (z s1 : Cplx) (pos : Nat) (s : State) : (storeHeader z s1 pos s).cnt = s.cnt := rfl
@[simp] theorem storeHeader_holds (z s1 : Cplx) (pos : Nat) (s : State) : (storeHeader z s1 pos s).holds = s.holds := rfl
@[simp] theorem storeHeader_live (z s1 : Cplx) (pos : Nat) (s : State) : (storeHeader z s1 pos s).live = s.live := rfl
@[simp] theorem storeHeader_agc (z s1 : Cplx) (pos : Nat) (s : State) : (storeHeader z s1 pos s).agc = s.agc := rfl
@[simp] theorem storeHeader_mf (z s1 : Cplx) (pos : Nat) (s : State) : (storeHeader z s1 pos s).mf = s.mf := rfl
@[simp] theorem storeHeader_str (z s1 : Cplx) (pos : Nat) (s : State) : (storeHeader z s1 pos s).str = s.str := rfl
@[simp] theorem storeHeader_pls (z s1 : Cplx) (pos : Nat) (s : State) : (storeHeader z s1 pos s).pls = s.pls := rfl
@[simp] theorem storeHeader_cpr (z s1 : Cplx) (pos : Nat) (s : State) :
    (storeHeader z s1 pos s).cpr = { s.cpr with hraw := s.cpr.hraw.set pos z, hder := s.cpr.hder.set pos s1 } := rfl
@[simp] theorem storeHeader_dsc (z s1 : Cplx) (pos : Nat) (s : State) : (storeHeader z s1 pos s).dsc = s.dsc := rfl
@[simp] theorem storeHeader_fifo (z s1 : Cplx) (pos : Nat) (s : State) : (storeHeader z s1 pos s).fifo = s.fifo := rfl
@[simp] theorem storeHeader_port (z s1 : Cplx) (pos : Nat) (s : State) : (storeHeader z s1 pos s).port = s.port := rfl
@[simp] theorem storeHeader_agenda (z s1 : Cplx) (pos : Nat) (s : State) : (storeHeader z s1 pos s).agenda = s.agenda := rfl

/-! `pilotAccumulate`. -/

@[simp] theorem pilotAccumulate_shadow (i : Nat) (s1 : Cplx) (s : State) : (pilotAccumulate i s1 s).shadow = s.shadow := rfl
@[simp] theorem pilotAccumulate_act (i : Nat) (s1 : Cplx) (s : State) : (pilotAccumulate i s1 s).act = s.act := rfl
@[simp] theorem pilotAccumulate_ctl (i : Nat) (s1 : Cplx) (s : State) : (pilotAccumulate i s1 s).ctl = s.ctl := rfl
@[simp] theorem pilotAccumulate_cnt (i : Nat) (s1 : Cplx) (s : State) : (pilotAccumulate i s1 s).cnt = s.cnt := rfl
@[simp] theorem pilotAccumulate_holds (i : Nat) (s1 : Cplx) (s : State) : (pilotAccumulate i s1 s).holds = s.holds := rfl
@[simp] theorem pilotAccumulate_live (i : Nat) (s1 : Cplx) (s : State) : (pilotAccumulate i s1 s).live = s.live := rfl
@[simp] theorem pilotAccumulate_agc (i : Nat) (s1 : Cplx) (s : State) : (pilotAccumulate i s1 s).agc = s.agc := rfl
@[simp] theorem pilotAccumulate_mf (i : Nat) (s1 : Cplx) (s : State) : (pilotAccumulate i s1 s).mf = s.mf := rfl
@[simp] theorem pilotAccumulate_str (i : Nat) (s1 : Cplx) (s : State) : (pilotAccumulate i s1 s).str = s.str := rfl
@[simp] theorem pilotAccumulate_pls (i : Nat) (s1 : Cplx) (s : State) : (pilotAccumulate i s1 s).pls = s.pls := rfl
@[simp] theorem pilotAccumulate_cpr (i : Nat) (s1 : Cplx) (s : State) :
    (pilotAccumulate i s1 s).cpr = { s.cpr with pacc := cadd s.cpr.pacc (cmul s1 (conj (pilotRef s.act.cfg i))), pen := fadd s.cpr.pen (cnorm2 s1) } := rfl
@[simp] theorem pilotAccumulate_dsc (i : Nat) (s1 : Cplx) (s : State) : (pilotAccumulate i s1 s).dsc = s.dsc := rfl
@[simp] theorem pilotAccumulate_fifo (i : Nat) (s1 : Cplx) (s : State) : (pilotAccumulate i s1 s).fifo = s.fifo := rfl
@[simp] theorem pilotAccumulate_port (i : Nat) (s1 : Cplx) (s : State) : (pilotAccumulate i s1 s).port = s.port := rfl
@[simp] theorem pilotAccumulate_agenda (i : Nat) (s1 : Cplx) (s : State) : (pilotAccumulate i s1 s).agenda = s.agenda := rfl

/-! `release`. -/

@[simp] theorem release_shadow (tb thb : F32) (s : State) : (release tb thb s).shadow = s.shadow := rfl
@[simp] theorem release_act (tb thb : F32) (s : State) : (release tb thb s).act = s.act := rfl
@[simp] theorem release_ctl (tb thb : F32) (s : State) : (release tb thb s).ctl = s.ctl := rfl
@[simp] theorem release_cnt (tb thb : F32) (s : State) : (release tb thb s).cnt = s.cnt := rfl
@[simp] theorem release_holds (tb thb : F32) (s : State) : (release tb thb s).holds = s.holds := rfl
@[simp] theorem release_live (tb thb : F32) (s : State) : (release tb thb s).live = s.live := rfl
@[simp] theorem release_agc (tb thb : F32) (s : State) : (release tb thb s).agc = s.agc := rfl
@[simp] theorem release_mf (tb thb : F32) (s : State) : (release tb thb s).mf = s.mf := rfl
@[simp] theorem release_str (tb thb : F32) (s : State) : (release tb thb s).str = s.str := rfl
@[simp] theorem release_pls (tb thb : F32) (s : State) : (release tb thb s).pls = s.pls := rfl
@[simp] theorem release_dsc (tb thb : F32) (s : State) : (release tb thb s).dsc = s.dsc := rfl
@[simp] theorem release_fifo (tb thb : F32) (s : State) : (release tb thb s).fifo = s.fifo := rfl
@[simp] theorem release_port (tb thb : F32) (s : State) : (release tb thb s).port = s.port := rfl
@[simp] theorem release_agenda (tb thb : F32) (s : State) : (release tb thb s).agenda = s.agenda := rfl

/-! `forceRequest`. -/

@[simp] theorem forceRequest_shadow (e : BitVec 32) (s : State) : (forceRequest e s).shadow = s.shadow := rfl
@[simp] theorem forceRequest_act (e : BitVec 32) (s : State) : (forceRequest e s).act = s.act := rfl
@[simp] theorem forceRequest_ctl (e : BitVec 32) (s : State) : (forceRequest e s).ctl = s.ctl := rfl
@[simp] theorem forceRequest_cnt (e : BitVec 32) (s : State) : (forceRequest e s).cnt = s.cnt := rfl
@[simp] theorem forceRequest_holds (e : BitVec 32) (s : State) : (forceRequest e s).holds = s.holds := rfl
@[simp] theorem forceRequest_live (e : BitVec 32) (s : State) : (forceRequest e s).live = s.live := rfl
@[simp] theorem forceRequest_agc (e : BitVec 32) (s : State) : (forceRequest e s).agc = s.agc := rfl
@[simp] theorem forceRequest_mf (e : BitVec 32) (s : State) : (forceRequest e s).mf = s.mf := rfl
@[simp] theorem forceRequest_str (e : BitVec 32) (s : State) : (forceRequest e s).str = s.str := rfl
@[simp] theorem forceRequest_pls (e : BitVec 32) (s : State) :
    (forceRequest e s).pls = { s.pls with cforce := true, cforceEp := e } := rfl
@[simp] theorem forceRequest_cpr (e : BitVec 32) (s : State) : (forceRequest e s).cpr = s.cpr := rfl
@[simp] theorem forceRequest_dsc (e : BitVec 32) (s : State) : (forceRequest e s).dsc = s.dsc := rfl
@[simp] theorem forceRequest_fifo (e : BitVec 32) (s : State) : (forceRequest e s).fifo = s.fifo := rfl
@[simp] theorem forceRequest_port (e : BitVec 32) (s : State) : (forceRequest e s).port = s.port := rfl
@[simp] theorem forceRequest_agenda (e : BitVec 32) (s : State) : (forceRequest e s).agenda = s.agenda := rfl

/-! `midpoint`. -/

@[simp] theorem midpoint_shadow (y : List Cplx) (s : State) : (midpoint y s).shadow = s.shadow := rfl
@[simp] theorem midpoint_act (y : List Cplx) (s : State) : (midpoint y s).act = s.act := rfl
@[simp] theorem midpoint_ctl (y : List Cplx) (s : State) : (midpoint y s).ctl = s.ctl := rfl
@[simp] theorem midpoint_cnt (y : List Cplx) (s : State) : (midpoint y s).cnt = s.cnt := rfl
@[simp] theorem midpoint_holds (y : List Cplx) (s : State) : (midpoint y s).holds = s.holds := rfl
@[simp] theorem midpoint_live (y : List Cplx) (s : State) : (midpoint y s).live = s.live := rfl
@[simp] theorem midpoint_agc (y : List Cplx) (s : State) : (midpoint y s).agc = s.agc := rfl
@[simp] theorem midpoint_mf (y : List Cplx) (s : State) : (midpoint y s).mf = s.mf := rfl
@[simp] theorem midpoint_str (y : List Cplx) (s : State) :
    (midpoint y s).str = { s.str with yMid := interp s.act.n y s.str.muM, haveMid := true, midPending := false } := rfl
@[simp] theorem midpoint_pls (y : List Cplx) (s : State) : (midpoint y s).pls = s.pls := rfl
@[simp] theorem midpoint_cpr (y : List Cplx) (s : State) : (midpoint y s).cpr = s.cpr := rfl
@[simp] theorem midpoint_dsc (y : List Cplx) (s : State) : (midpoint y s).dsc = s.dsc := rfl
@[simp] theorem midpoint_fifo (y : List Cplx) (s : State) : (midpoint y s).fifo = s.fifo := rfl
@[simp] theorem midpoint_port (y : List Cplx) (s : State) : (midpoint y s).port = s.port := rfl
@[simp] theorem midpoint_agenda (y : List Cplx) (s : State) : (midpoint y s).agenda = s.agenda := rfl

/-! `strAdvance`. -/

@[simp] theorem strAdvance_shadow (s : State) : (strAdvance s).shadow = s.shadow := rfl
@[simp] theorem strAdvance_act (s : State) : (strAdvance s).act = s.act := rfl
@[simp] theorem strAdvance_ctl (s : State) : (strAdvance s).ctl = s.ctl := rfl
@[simp] theorem strAdvance_cnt (s : State) : (strAdvance s).cnt = s.cnt := rfl
@[simp] theorem strAdvance_holds (s : State) : (strAdvance s).holds = s.holds := rfl
@[simp] theorem strAdvance_live (s : State) : (strAdvance s).live = s.live := rfl
@[simp] theorem strAdvance_agc (s : State) : (strAdvance s).agc = s.agc := rfl
@[simp] theorem strAdvance_mf (s : State) : (strAdvance s).mf = s.mf := rfl
@[simp] theorem strAdvance_pls (s : State) : (strAdvance s).pls = s.pls := rfl
@[simp] theorem strAdvance_cpr (s : State) : (strAdvance s).cpr = s.cpr := rfl
@[simp] theorem strAdvance_dsc (s : State) : (strAdvance s).dsc = s.dsc := rfl
@[simp] theorem strAdvance_fifo (s : State) : (strAdvance s).fifo = s.fifo := rfl
@[simp] theorem strAdvance_port (s : State) : (strAdvance s).port = s.port := rfl
@[simp] theorem strAdvance_agenda (s : State) : (strAdvance s).agenda = s.agenda := rfl

/-! `powerOnReset`. -/

@[simp] theorem powerOnReset_shadow (s : State) : (powerOnReset s).shadow = State.reset.shadow := rfl
@[simp] theorem powerOnReset_act (s : State) : (powerOnReset s).act = State.reset.act := rfl
@[simp] theorem powerOnReset_ctl (s : State) : (powerOnReset s).ctl = State.reset.ctl := rfl
@[simp] theorem powerOnReset_cnt (s : State) : (powerOnReset s).cnt = State.reset.cnt := rfl
@[simp] theorem powerOnReset_holds (s : State) : (powerOnReset s).holds = State.reset.holds := rfl
@[simp] theorem powerOnReset_live (s : State) : (powerOnReset s).live = State.reset.live := rfl
@[simp] theorem powerOnReset_agc (s : State) : (powerOnReset s).agc = State.reset.agc := rfl
@[simp] theorem powerOnReset_mf (s : State) : (powerOnReset s).mf = State.reset.mf := rfl
@[simp] theorem powerOnReset_str (s : State) : (powerOnReset s).str = State.reset.str := rfl
@[simp] theorem powerOnReset_pls (s : State) : (powerOnReset s).pls = State.reset.pls := rfl
@[simp] theorem powerOnReset_cpr (s : State) : (powerOnReset s).cpr = State.reset.cpr := rfl
@[simp] theorem powerOnReset_dsc (s : State) : (powerOnReset s).dsc = State.reset.dsc := rfl
@[simp] theorem powerOnReset_fifo (s : State) : (powerOnReset s).fifo = State.reset.fifo := rfl
@[simp] theorem powerOnReset_port (s : State) : (powerOnReset s).port = State.reset.port := rfl
@[simp] theorem powerOnReset_agenda (s : State) : (powerOnReset s).agenda = s.agenda := rfl

/-! `withFetchWord`. -/

@[simp] theorem withFetchWord_shadow (s : State) (nbits w : Nat) : (s.withFetchWord nbits w).shadow = s.shadow := rfl
@[simp] theorem withFetchWord_act (s : State) (nbits w : Nat) : (s.withFetchWord nbits w).act = s.act := rfl
@[simp] theorem withFetchWord_ctl (s : State) (nbits w : Nat) : (s.withFetchWord nbits w).ctl = s.ctl := rfl
@[simp] theorem withFetchWord_cnt (s : State) (nbits w : Nat) : (s.withFetchWord nbits w).cnt = s.cnt := rfl
@[simp] theorem withFetchWord_holds (s : State) (nbits w : Nat) : (s.withFetchWord nbits w).holds = s.holds := rfl
@[simp] theorem withFetchWord_live (s : State) (nbits w : Nat) : (s.withFetchWord nbits w).live = s.live := rfl
@[simp] theorem withFetchWord_agc (s : State) (nbits w : Nat) : (s.withFetchWord nbits w).agc = s.agc := rfl
@[simp] theorem withFetchWord_mf (s : State) (nbits w : Nat) : (s.withFetchWord nbits w).mf = s.mf := rfl
@[simp] theorem withFetchWord_str (s : State) (nbits w : Nat) : (s.withFetchWord nbits w).str = s.str := rfl
@[simp] theorem withFetchWord_pls (s : State) (nbits w : Nat) : (s.withFetchWord nbits w).pls = s.pls := rfl
@[simp] theorem withFetchWord_cpr (s : State) (nbits w : Nat) : (s.withFetchWord nbits w).cpr = s.cpr := rfl
@[simp] theorem withFetchWord_dsc (s : State) (nbits w : Nat) : (s.withFetchWord nbits w).dsc = s.dsc := rfl
@[simp] theorem withFetchWord_fifo (s : State) (nbits w : Nat) : (s.withFetchWord nbits w).fifo = s.fifo := rfl
@[simp] theorem withFetchWord_port (s : State) (nbits w : Nat) : (s.withFetchWord nbits w).port = s.port := rfl
@[simp] theorem withFetchWord_agenda (s : State) (nbits w : Nat) :
    (s.withFetchWord nbits w).agenda = agendaWith nbits w s.agenda := rfl

end Sys2Proof.Laws
end

