-- ==== Sys2Proof/Laws/Ops.lean ====
section
/-! SUPPORT. Laws/Ops.lean: for each shared operation one lemma that says once everything it can do, to be cited instead of
unfolding the operation. -/

namespace Sys2Proof.Laws

open Sys2Proof.Machine

/-! The CSR window. -/

/-- An admitted access to a register's offset reaches that register (R201). -/
theorem admitted_csrOffset (r : Csr) : admitted (csrOffset r) 4 = some r := by cases r <;> decide

/-- What an admitted access reaches: a register, at its own offset, with a width of 4 bytes (R201 to R203). -/
theorem admitted_eq_some {off : BitVec 12} {size : Nat} {r : Csr} (h : admitted off size = some r) :
    size = 4 ∧ csrOffset r = off := by
  unfold admitted at h
  split at h
  · rename_i hs
    exact ⟨hs.1, by simpa using List.find?_some h⟩
  · cases h

/-! Taking an event. -/

/-- A conditional saturation event (R17, R803): both bits, or nothing. -/
theorem raiseNumIf_eq (b : Bool) (u : NumUnit) (s : State) :
    raiseNumIf b u s = if b = true then raiseNum u s else s := rfl

/-! Process steps: taken on the oldest item when enabled, else nothing (R110). -/

/-- Everything AGC_STEP can do. -/
theorem execAgcStep_cases (s : State) :
    (∃ x rest, s.fifo.fIn = x :: rest ∧ s.ctl.running = true ∧ s.agc.outq = []
      ∧ execAgcStep s = .next (agcProcess x { s with fifo := { s.fifo with fIn := rest } }))
      ∨ execAgcStep s = .next s := by
  unfold execAgcStep
  split
  · exact .inr rfl
  · rename_i x rest hx
    split
    · rename_i he
      simp only [agcEnabled, Bool.and_eq_true, List.isEmpty_iff] at he
      exact .inl ⟨x, rest, hx, he.1.1, he.2, rfl⟩
    · exact .inr rfl

/-- Everything MF_STEP can do. -/
theorem execMfStep_cases (s : State) :
    (∃ it rest, s.fifo.l12 = it :: rest ∧ s.ctl.running = true ∧ s.mf.outq = []
      ∧ execMfStep s = .next (mfProcess it { s with fifo := { s.fifo with l12 := rest } }))
      ∨ execMfStep s = .next s := by
  unfold execMfStep
  split
  · exact .inr rfl
  · rename_i it rest hx
    split
    · rename_i he
      simp only [mfEnabled, Bool.and_eq_true, List.isEmpty_iff] at he
      exact .inl ⟨it, rest, hx, he.1.1, he.2, rfl⟩
    · exact .inr rfl

/-- Everything STR_STEP can do. -/
theorem execStrStep_cases (s : State) :
    (∃ it rest, s.fifo.l23 = it :: rest ∧ s.ctl.running = true ∧ s.str.outq = []
      ∧ execStrStep s = .next (strProcess it { s with fifo := { s.fifo with l23 := rest } }))
      ∨ execStrStep s = .next s := by
  unfold execStrStep
  split
  · exact .inr rfl
  · rename_i it rest hx
    split
    · rename_i he
      simp only [strEnabled, Bool.and_eq_true, List.isEmpty_iff] at he
      exact .inl ⟨it, rest, hx, he.1.1, he.2, rfl⟩
    · exact .inr rfl

/-- Everything PLS_STEP can do. -/
theorem execPlsStep_cases (s : State) :
    (∃ it rest, s.fifo.l34 = it :: rest ∧ s.ctl.running = true ∧ s.pls.outq = []
      ∧ execPlsStep s = .next (plsProcess it { s with fifo := { s.fifo with l34 := rest } }))
      ∨ execPlsStep s = .next s := by
  unfold execPlsStep
  split
  · exact .inr rfl
  · rename_i it rest hx
    split
    · rename_i he
      simp only [plsEnabled, plsReady, Bool.and_eq_true, List.isEmpty_iff] at he
      exact .inl ⟨it, rest, hx, he.1.1, he.1.2, rfl⟩
    · exact .inr rfl

/-- Everything a CPR step can do (R601). -/
theorem cprStep_cases (s : State) :
    (∃ it rest, s.fifo.l45 = it :: rest ∧ s.ctl.running = true ∧ s.cpr.outq = []
      ∧ cprStep s = cprProcess it { s with fifo := { s.fifo with l45 := rest } })
      ∨ cprStep s = s := by
  unfold cprStep
  split
  · exact .inr rfl
  · rename_i it rest hx
    split
    · rename_i he
      simp only [cprEnabled, cprReady, Bool.and_eq_true, List.isEmpty_iff] at he
      exact .inl ⟨it, rest, hx, he.1.1, he.1.2, rfl⟩
    · exact .inr rfl

/-- Everything DSC_STEP can do. -/
theorem execDscStep_cases (s : State) :
    (∃ it rest, s.fifo.l56 = it :: rest ∧ s.ctl.running = true ∧ s.dsc.cur.done = false
      ∧ execDscStep s = .next (dscProcess it { s with fifo := { s.fifo with l56 := rest } }))
      ∨ execDscStep s = .next s := by
  unfold execDscStep
  split
  · exact .inr rfl
  · rename_i it rest hx
    split
    · rename_i he
      simp only [dscEnabled, Bool.and_eq_true, Bool.not_eq_true'] at he
      exact .inl ⟨it, rest, hx, he.1.1, he.2, rfl⟩
    · exact .inr rfl

/-! The timing loop (R402). -/

/-- With neither event due, the loop stops. -/
theorem strLoop_stop (y : List Cplx) (smp : Idx) (k : Nat) (s : State)
    (hm : s.str.midPending = true → s.str.cM ≠ 0) (hs : s.str.cS ≠ 0) : strLoop y smp k s = s := by
  cases k with
  | zero => rfl
  | succ k =>
    unfold strLoop
    by_cases h : s.str.midPending = true
    · simp [h, hm h, hs]
    · simp [h, hs]

/-- A strobe puts the next one in a later item (R406) and stages one symbol (R407). -/
theorem strobe_next (y : List Cplx) (smp : Idx) (s : State) :
    1 ≤ (strobe y smp s).str.cS ∧ (strobe y smp s).str.outq = s.str.outq ++ [⟨interp s.act.n y s.str.muS, smp⟩] := by
  unfold strobe raiseNumIf
  dsimp only
  split <;> exact ⟨Nat.le_max_left _ _, rfl⟩

/-- With no strobe due, the loop takes the midpoint if one is due, and stops. -/
theorem strLoop_midpoint (y : List Cplx) (smp : Idx) (k : Nat) (s : State) (hs : s.str.cS ≠ 0) :
    strLoop y smp (k + 1) s = if s.str.midPending = true ∧ s.str.cM = 0 then midpoint y s else s := by
  by_cases h : s.str.midPending = true ∧ s.str.cM = 0
  · rw [if_pos h, strLoop, if_pos (by simp [h.1, h.2])]
    exact strLoop_stop y smp k _ nofun hs
  · rw [if_neg h]
    exact strLoop_stop y smp (k + 1) s (fun hm hc => h ⟨hm, hc⟩) hs

/-! The synchroniser. -/

/-- With no request that acts, FORCE_CHECK only clears both requests (R530). -/
theorem forceCheck_quiet (s : State) (h : quiet s) :
    forceCheck s = { s with pls := { s.pls with force := false, cforce := false } } := by
  obtain ⟨_, _, _, _, _, _, _, _, _, ⟨_, _, _, _, _, _, _, _, _, _, _, force, cforce, _, _, _, _, _, _, _⟩,
    _, _, _, _, _⟩ := s
  simp only [quiet] at h
  simp only [forceCheck, hostForce, carrierForce, leaveLock]
  rcases h with h | ⟨h, h'⟩
  · subst h
    cases force <;> cases cforce <;> simp
  · subst h
    cases cforce
    · simp
    · simp [h' rfl]

/-- What START_FRAME decides (R532, R536, R537): a dummy is only tracked, a filtered frame dropped, any other forwarded under
a new frame number. -/
theorem startFrame_eq (p : BitVec 7) (s : State) :
    startFrame p s =
      if isDummy p = true then { s with pls := { s.pls with fwd := false } }
      else if isFiltered s.act.cfg p = true then dropFrame { s with pls := { s.pls with fwd := false } }
      else { s with pls := { s.pls with fwd := true, fid := s.pls.fid + 1#32 } } := by
  unfold startFrame isDummy isFiltered plsFilter
  by_cases h : modcodOf p = 0
  · rw [if_pos h, if_pos (beq_iff_eq.mpr h)]
  · rw [if_neg h, if_neg (mt beq_iff_eq.mp h)]

/-- A fold of EMIT appends the tagged items in order. -/
theorem foldl_emit_eq (w : List Cplx) (ws : List Idx) (l : List Nat) (s : State) :
    l.foldl (fun t k => emit (wAt w k) (ws.getD k 0#64) k t) s =
      { s with pls := { s.pls with
          outq := s.pls.outq ++
            l.map (fun k => ⟨w.getD k czero, ws.getD k 0#64, s.pls.epoch, s.pls.fid, s.pls.curPls, k⟩) } } := by
  induction l generalizing s with
  | nil => simp
  | cons a l ih =>
    rw [List.foldl_cons, ih]
    simp [emit, wAt]

/-- The header of a forwarded frame is staged as 90 tagged items (R533). -/
theorem emitHeader_eq (w : List Cplx) (ws : List Idx) (s : State) :
    emitHeader w ws s =
      { s with pls := { s.pls with
          outq := s.pls.outq ++ headerItems w ws s.pls.epoch s.pls.fid s.pls.curPls } } :=
  foldl_emit_eq w ws _ s

/-- The window keeps its length when a symbol slides in (R522). -/
theorem slide_window_length (y : Cplx) (smp : Idx) (s : State) (h : s.pls.w.length = 90) :
    (slide y smp s).pls.w.length = 90 := by
  simp [slide, h]

/-! The matched filter. -/

/-- The delay line keeps its length (R314). -/
theorem mfShift_length (z : Cplx) (x : List Cplx) : (mfShift z x).length = x.length := by
  simp [mfShift]

/-- Under a valid configuration every element the delay line holds is in use (R63). -/
@[simp] theorem delayLine_valid (s : State) (h : s.ctl.cfgValid = true) : delayLine s = s.mf.x := by simp [delayLine, h]

/-- While `CFG_VALID` = 0 no element is in use (R63). -/
@[simp] theorem delayLine_invalid (s : State) (h : s.ctl.cfgValid = false) : delayLine s = [] := by simp [delayLine, h]

/-! Comparisons and clamps (R13). -/

/-- On numbers, less-or-equal is the negation of the converse less-than. -/
theorem fle_eq_not_flt {a b : F32} (ha : isnan a = false) (hb : isnan b = false) : fle a b = !flt b a := by
  simp only [fle, flt, ha, hb, Bool.not_false, Bool.true_and, ← decide_not, not_lt]

/-- What a clamp of a number between two ordered numbers can answer, and its bounds (R13). -/
theorem clampf_bounds {v lo hi : F32} (hv : isnan v = false) (h : fle lo hi = true) :
    isnan (clampf v lo hi) = false ∧ fle lo (clampf v lo hi) = true ∧ fle (clampf v lo hi) hi = true := by
  simp only [fle, Bool.and_eq_true, Bool.not_eq_true', decide_eq_true_eq] at h
  obtain ⟨⟨hl, hh⟩, hk⟩ := h
  simp only [clampf, fmin, fmax, flt, fle, hv, hl, hh, Bool.not_false, Bool.true_and, decide_eq_true_eq]
  by_cases h1 : fkey v < fkey lo
  · by_cases h2 : fkey hi < fkey lo
    · exact absurd hk (not_le.mpr h2)
    · simp [h1, h2, hl, hk]
  · by_cases h2 : fkey hi < fkey v
    · simp [h1, h2, hh, hv, hk]
    · simp [h1, h2, hv, not_lt.mp h1, not_lt.mp h2]

end Sys2Proof.Laws
end

