-- ==== Sys2Proof/Laws/PerInstr.lean ====
section
/-! SUPPORT. Laws/PerInstr.lean: the family EncodesOnItsPort: each operation's packet is one of the agent that presents it
(R110, R142, R170 to R172): a command is a 4-byte write to `CMD` with its opcode (R150, R176), a unit operation carries its
unit's id (R41). -/

namespace Sys2Proof.Laws.EncodesOnItsPort

/-- The packet is a 4-byte write to `CMD` with opcode `op` in bits [31:24]. -/
def isCmd (op : Nat) : Packet → Bool
  | .bus .write off size w => isCommandWrite off size && field w.toNat 24 8 == op
  | _ => false

/-- The packet is a unit packet with unit id `u`. -/
def isUnit (u : Nat) : Packet → Bool
  | .unit w => field w.toNat 0 4 == u
  | _ => false

/-- The packet an instruction should be presented as. -/
def expected : Instr → Packet → Bool
  | .nop => isCmd 0
  | .commit => isCmd 1
  | .start => isCmd 2
  | .stop => isCmd 3
  | .softReset => isCmd 4
  | .forceSearch => isCmd 5
  | .clearCounters => isCmd 6
  | .reserved w => isCmd (field w.toNat 24 8)
  | .csrRead off size => fun p => p == .bus .read off size 0#32
  | .csrWrite off size wdata => fun p => p == .bus .write off size wdata
  | .inBeat _ _ => fun p => match p with
    | .inBeat _ => true
    | _ => false
  | .outBeat => fun p => p == .outTake
  | .agcStep => isUnit 0
  | .mfStep => isUnit 1
  | .strStep => isUnit 2
  | .hdrTest => isUnit 3
  | .plsStep => isUnit 4
  | .freqUpdate => isUnit 5
  | .mix _ _ => isUnit 6
  | .phaseRef => isUnit 7
  | .pilotSymbol _ _ _ => isUnit 8
  | .dscStep => isUnit 9
  | .hdrDecode => isUnit 3

/-- The instruction's packet is one of its agent's port. -/
def Statement (i : Instr) : Prop := expected i (encode i) = true

/-- The unit id of a unit packet is its low four bits. -/
theorem isUnit_encodeUnit (u : BitVec 4) (sel : BitVec 1) (z : Cplx) (hi : BitVec 16) :
    isUnit u.toNat (encodeUnit u sel z hi) = true := by
  have h : (encodeUnit u sel z hi) = .unit (hi ++ z.im ++ z.re ++ (0#3 ++ sel ++ u)) := rfl
  rw [h]
  simp only [isUnit, field, beq_iff_eq, Nat.pow_zero, Nat.div_one]
  rw [← BitVec.toNat_setWidth]
  congr 1
  ext k hk
  rw [BitVec.getElem_setWidth, BitVec.getLsbD_append, BitVec.getLsbD_append]
  simp [show k < 8 by omega, hk]

theorem nop : Statement .nop := rfl
theorem commit : Statement .commit := rfl
theorem start : Statement .start := rfl
theorem stop : Statement .stop := rfl
theorem softReset : Statement .softReset := rfl
theorem forceSearch : Statement .forceSearch := rfl
theorem clearCounters : Statement .clearCounters := rfl
theorem reserved (w : BitVec 32) : Statement (.reserved w) := by simp [Statement, expected, encode, encodeCmd, isCmd, isCommandWrite]
theorem csrRead (off : BitVec 12) (size : Nat) : Statement (.csrRead off size) := beq_self_eq_true _
theorem csrWrite (off : BitVec 12) (size : Nat) (wdata : BitVec 32) : Statement (.csrWrite off size wdata) := beq_self_eq_true _
theorem inBeat (i q : F32) : Statement (.inBeat i q) := rfl
theorem outBeat : Statement .outBeat := rfl
theorem agcStep : Statement .agcStep := rfl
theorem mfStep : Statement .mfStep := rfl
theorem strStep : Statement .strStep := rfl
theorem hdrTest : Statement .hdrTest := rfl
theorem plsStep : Statement .plsStep := rfl
theorem freqUpdate : Statement .freqUpdate := rfl
theorem mix (z : Cplx) (pos : BitVec 16) : Statement (.mix z pos) := isUnit_encodeUnit 6#4 0#1 z pos
theorem phaseRef : Statement .phaseRef := rfl
theorem pilotSymbol (blk o : BitVec 8) (s1 : Cplx) : Statement (.pilotSymbol blk o s1) := isUnit_encodeUnit 8#4 0#1 s1 (o ++ blk)
theorem dscStep : Statement .dscStep := rfl
theorem hdrDecode : Statement .hdrDecode := rfl

end Sys2Proof.Laws.EncodesOnItsPort
end

