-- ==== Sys2Proof/Tests/Slice0.lean ====
section
/-! SUPPORT. Tests/Slice0.lean: our own tests: the well-formedness smoke test, the decoding of words written out from the
spec's tables, a few of the vectors of 95_test_vectors.md (named in each docstring), and, for every obligation with
hypotheses, a named state and operands that meet them. -/

namespace Sys2Proof.Tests

open Sys2Proof.Machine

/- One test after another: each kernel evaluation that waits in parallel holds a thread and its stack. -/
set_option Elab.async false

/-! ## Well-formedness: an ill-formed term for each check -/

/-- R151: a defined command word is not reserved. -/
theorem test_wf_reserved : WellFormed (.reserved 0x06000000#32) = false := by decide
/-- R36: an admitted write to `CMD` is a command. -/
theorem test_wf_csrWrite : WellFormed (.csrWrite 0x008#12 4 0#32) = false := by decide
/-- R520: no frame has position 33282. -/
theorem test_wf_mix : WellFormed (.mix czero 33282#16) = false := by decide
/-- R506: at most 22 pilot blocks. -/
theorem test_wf_pilot_block : WellFormed (.pilotSymbol 22#8 0#8 czero) = false := by decide
/-- R506: 36 symbols in a block. -/
theorem test_wf_pilot_symbol : WellFormed (.pilotSymbol 0#8 36#8 czero) = false := by decide

/-! ## Decoding: words written out from R150, R142, R170, R41 -/

/-- `OPCODE` 0x00, `ARG` 0. -/
theorem test_decode_nop : decodeTableWord 32 0b00000000000000000000000000000000 = some .nop := by decide
/-- `OPCODE` 0x01. -/
theorem test_decode_commit : decodeTableWord 32 0b00000001000000000000000000000000 = some .commit := by decide
/-- `OPCODE` 0x02. -/
theorem test_decode_start : decodeTableWord 32 0b00000010000000000000000000000000 = some .start := by decide
/-- `OPCODE` 0x03. -/
theorem test_decode_stop : decodeTableWord 32 0b00000011000000000000000000000000 = some .stop := by decide
/-- `OPCODE` 0x04. -/
theorem test_decode_softReset : decodeTableWord 32 0b00000100000000000000000000000000 = some .softReset := by decide
/-- `OPCODE` 0x05. -/
theorem test_decode_forceSearch : decodeTableWord 32 0b00000101000000000000000000000000 = some .forceSearch := by decide
/-- `OPCODE` 0x06. -/
theorem test_decode_clearCounters : decodeTableWord 32 0b00000110000000000000000000000000 = some .clearCounters := by decide
/-- `OPCODE` 0xFF, `ARG` 1 (V24). -/
theorem test_decode_reserved : decodeTableWord 32 0xFF000001 = some (.reserved 0xFF000001#32) := by decide
/-- A read of `STATUS` (R142, V4). -/
theorem test_decode_csrRead : decode (.bus .read 0x00C#12 2 0#32) = .ok (.csrRead 0x00C#12 2) := rfl
/-- A write of `RRC_DELAY` (R142, V12). -/
theorem test_decode_csrWrite :
    decode (.bus .write 0x124#12 4 0xFFFFFF07#32) = .ok (.csrWrite 0x124#12 4 0xFFFFFF07#32) := rfl
/-- A word written to `CMD` is a command (R176). -/
theorem test_decode_cmd_write : decode (.bus .write 0x008#12 4 0x05000000#32) = .ok .forceSearch := rfl
/-- R170, V18: bits [31:0] are I, bits [63:32] Q. -/
theorem test_decode_inBeat : decodeTableWord 64 0xBF0000003F000000 = some (.inBeat 0x3F000000#32 0xBF000000#32) := by decide
/-- The output consumer's step (R205). -/
theorem test_decode_outBeat : decode .outTake = .ok .outBeat := rfl
/-- Unit 0 (R41). -/
theorem test_decode_agcStep : decodeTableWord 8 0b00000000 = some .agcStep := by decide
/-- Unit 1. -/
theorem test_decode_mfStep : decodeTableWord 8 0b00000001 = some .mfStep := by decide
/-- Unit 2. -/
theorem test_decode_strStep : decodeTableWord 8 0b00000010 = some .strStep := by decide
/-- Unit 3, its first operation. -/
theorem test_decode_hdrTest : decodeTableWord 8 0b00000011 = some .hdrTest := by decide
/-- Unit 3, its second operation (notes/assumptions/2.md). -/
theorem test_decode_hdrDecode : decodeTableWord 8 0b00010011 = some .hdrDecode := by decide
/-- Unit 4. -/
theorem test_decode_plsStep : decodeTableWord 8 0b00000100 = some .plsStep := by decide
/-- Unit 5. -/
theorem test_decode_freqUpdate : decodeTableWord 8 0b00000101 = some .freqUpdate := by decide
/-- Unit 6 with operand words `C(1.0, -2.0)` at position 89. -/
theorem test_decode_mix :
    decodeTableWord 88 0x0059C00000003F80000006 = some (.mix ⟨0x3F800000#32, 0xC0000000#32⟩ 89#16) := by decide
/-- Unit 7. -/
theorem test_decode_phaseRef : decodeTableWord 8 0b00000111 = some .phaseRef := by decide
/-- Unit 8 with block 2 (`blk` 1), symbol 35, `C(1.0, -2.0)`. -/
theorem test_decode_pilotSymbol :
    decodeTableWord 88 0x2301C00000003F80000008 = some (.pilotSymbol 1#8 35#8 ⟨0x3F800000#32, 0xC0000000#32⟩) := by decide
/-- Unit 9. -/
theorem test_decode_dscStep : decodeTableWord 8 0b00001001 = some .dscStep := by decide
/-- R41 numbers no unit 10. -/
theorem test_decode_unit10 : decodeTableWord 8 0b00001010 = none := by decide

/-! ## States the tests start from -/

/-- The reset state with `RUNNING` and `CFG_VALID` set. -/
def running : State := { State.reset with ctl := { State.reset.ctl with running := true, cfgValid := true } }

/-- The state an instruction leaves. -/
def after (i : Instr) (s : State) : State :=
  match exec i s with
  | .next t => t
  | _ => s

/-- The state an agent's step leaves. -/
def afterAgent (a : Action) (s : State) : State :=
  match agentStep a s with
  | .next t => t
  | _ => s

/-- A running state with one input sample waiting. -/
def sampled (x : Cplx) : State := { running with fifo := { running.fifo with fIn := [x] } }

/-- A small active configuration: one branch of three taps `0.5, 1.0, 0.5` (`Kh = 1`, `L = 3`). -/
def smallAct : Act := { actReset with l := 3, kh := 1, n := 1, c := [fHalf, f1, fHalf] }

/-- A running state of the small configuration with one item waiting for the matched filter. -/
def filtered (z : Cplx) : State :=
  { running with
    act := smallAct
    mf := { running.mf with x := [czero, ⟨f2, f1⟩, czero] }
    fifo := { running.fifo with l12 := [⟨z, 7#64⟩] } }

/-- A running state of the small configuration with one item waiting for timing recovery. -/
def timed (y : Cplx) : State := { running with act := smallAct, fifo := { running.fifo with l23 := [⟨[y], 9#64⟩] } }

/-- The window `HREF(p)` of the unscrambled reset configuration. -/
def headerOf (p : BitVec 7) : List Cplx := (List.range 90).map (href cfgReset p)

/-- A running synchroniser with `HREF(p)` in its window. -/
def windowed (p : BitVec 7) : State := { running with pls := { running.pls with w := headerOf p, fill := 90 } }

/-- A running synchroniser with a symbol waiting. -/
def symbolWaits (q : Pls) : State := { running with pls := q, fifo := { running.fifo with l34 := [⟨⟨f1, f1⟩, 5#64⟩] } }

/-- A held detection of PLS value `p`. -/
def heldPls (p : BitVec 7) (ok : Bool) : Pls :=
  { plsReset with
    state := .headerFound
    fill := 90
    pend := some ⟨headerOf p, List.replicate 90 3#64, 10#64, ⟨p, 0, ok⟩⟩ }

/-- A locked synchroniser, `cnt` symbols before the next check, in a frame of PLS value 16 that is forwarded. -/
def lockedPls (cnt : Nat) : Pls :=
  { plsReset with state := .locked, fill := 90, cnt := cnt, curPls := 16#7, curLen := 32490, fwd := true, fid := 1#32 }

/-- Carrier recovery inside frame 1 of PLS value 17 (pilots), at position `next`. -/
def inFrame (next : Nat) : Cpr :=
  { cprReset with fr := ⟨true, 1#32, 0#32, 17#7, 33282, 22, next, false⟩ }

/-- A running carrier recovery with a tagged symbol waiting. -/
def tagged (c : Cpr) (it : Item45) : State := { running with cpr := c, fifo := { running.fifo with l45 := [it] } }

/-! ## Vectors of 95_test_vectors.md -/

/-- V1. -/
theorem test_v1_id : (after (.csrRead 0x000#12 4) State.reset).port.bus = ⟨true, 0x44533252#32⟩ := by decide
/-- V3. -/
theorem test_v3_unmapped : (after (.csrRead 0x300#12 4) State.reset).port.bus = ⟨false, 0#32⟩
    ∧ (after (.csrRead 0x300#12 4) State.reset).ctl.irqStatus = 0x200#10 := by decide
/-- V9. -/
theorem test_v9_irqEnable : (after (.csrWrite 0x01C#12 4 0xFFFFFFFF#32) State.reset).ctl.irqEnable = 0x3FF#10 := by decide
/-- V10. -/
theorem test_v10_w1c : (after (.csrWrite 0x018#12 4 0x00000240#32)
    { State.reset with ctl := { State.reset.ctl with irqStatus := 0x241#10 } }).ctl.irqStatus = 0x001#10 := by decide
/-- V18. -/
theorem test_v18_inBeat : (after (.inBeat 0x3F000000#32 0xBF000000#32) running).fifo.fIn = [⟨0x3F000000#32, 0xBF000000#32⟩] := rfl
/-- V20, first beat. -/
theorem test_v20_outBeat : ((after .outBeat
    { State.reset with dsc := { State.reset.dsc with outbuf := [⟨0x10#7, 32400, [⟨f1, f2⟩]⟩] } }).port.out.map (·.user)) =
      some 0x041#9 := by decide
/-- V22. -/
theorem test_v22_arg : csrValue (after (.reserved 0x00000001#32) State.reset) .cmdErrInfo = 0x200#32 := by decide
/-- V24. -/
theorem test_v24_reason : csrValue (after (.reserved 0xFF000001#32) State.reset) .cmdErrInfo = 0x1FF#32 := by decide
/-- V26. -/
theorem test_v26_commit_running : csrValue (after .commit running) .cmdErrInfo = 0x301#32 := by decide
/-- V27. -/
theorem test_v27_commit_illegal : (after .commit
    { State.reset with shadow := { cfgReset with sps := 0#32 } }).ctl.cfgErr = 0x00208#17 := by decide +kernel
/-- V35. -/
theorem test_v35_start : csrValue (after .start State.reset) .cmdErrInfo = 0x302#32 := by decide
/-- V38, the sample count after SOFT_RESET. -/
theorem test_v38_softReset : (after .softReset
    { running with agc := { running.agc with sampleIdx := 193#64 } }).agc.sampleIdx = 0#64 := by decide
/-- V39. -/
theorem test_v39_clearCounters : (after .clearCounters
    { State.reset with cnt := { State.reset.cnt with acqCnt := 1#32 } }).cnt.acqCnt = 0#32 := by decide
/-- V41. -/
theorem test_v41_agc : (after .agcStep (sampled ⟨0x40400000#32, 0x40800000#32⟩)).agc.g = 0x3F7FC000#32 := by decide +kernel
/-- V45. -/
theorem test_v45_agc_clamps : (after .agcStep (sampled ⟨0x49742400#32, 0#32⟩)).agc.g = 0x37800000#32
    ∧ (after .agcStep (sampled ⟨0x49742400#32, 0#32⟩)).ctl.numEvt = 0x001#10 := by decide +kernel
/-- R314, by hand: `0.5*2 + 1.0*0 + 0.5*2 = 2` (real parts), the newest sample on tap 0. -/
theorem test_mf : (after .mfStep (filtered ⟨f2, f0⟩)).mf.outq.map (·.smp) = [7#64]
    ∧ ((after .mfStep (filtered ⟨f2, f0⟩)).mf.outq.map (fun it => it.y.map (·.re))) = [[0x40000000#32]] := by decide +kernel
/-- V66: the first strobe after a reset. -/
theorem test_v66_first_strobe : (after .strStep (timed ⟨f1, f0⟩)).str.outq = [⟨⟨f1, f0⟩, 9#64⟩]
    ∧ (after .strStep (timed ⟨f1, f0⟩)).live.strErrCur = 0#32
    ∧ (after .strStep (timed ⟨f1, f0⟩)).str.cS = 1 := by decide +kernel
/-- V62. -/
theorem test_v62_gardner :
    gardner ⟨f1, f0⟩ ⟨0x3E4CCCCD#32, f0⟩ ⟨0xBF800000#32, f0⟩ = 0x3ECCCCCD#32 := by decide +kernel
/-- V84. -/
theorem test_v84_lengths :
    ([0, 3, 16, 17, 18, 19, 48, 49, 50, 51, 72, 73, 74, 75, 96, 97, 98, 99].map fun p => frameLen (BitVec.ofNat 7 p)) =
      [3330, 3330, 32490, 33282, 8190, 8370, 21690, 22194, 5490, 5598, 16290, 16686, 4140, 4212, 13050, 13338, 3330, 3402] := by
  decide
/-- V91: a request while locked. -/
theorem test_v91_forceSearch : (after .plsStep (symbolWaits { lockedPls 100 with force := true })).pls.state = .searching
    ∧ (after .plsStep (symbolWaits { lockedPls 100 with force := true })).cnt.lossCnt = 1#32 := by decide
/-- V93, the second symbol. -/
theorem test_v93_mix : (after (.mix ⟨f1, f0⟩ 1#16)
    { running with cpr := { running.cpr with fAct := fQuarter, psi := fQuarter } }).cpr.psi = 0xBF000000#32 := by decide +kernel
/-- V94. -/
theorem test_v94_wrap : wrapT 0x3F400000#32 = 0xBE800000#32 ∧ wrapT 0x3F000000#32 = 0xBF000000#32 := by decide +kernel
/-- V98. -/
theorem test_v98_phase : phaseAt 0x44470000#32 0x42320000#32 0#32 0x44C17000#32 0x3CA3D70A#32 = 0x3C23D70A#32 := by
  decide +kernel
/-- V100: the header phase reference of a noiseless header. -/
theorem test_v100_phaseRef : (after .phaseRef
    { running with cpr := { inFrame 90 with hder := headerOf 17#7 } }).cpr.refT = 0x42320000#32 := by decide +kernel
/-- V96's event: FREQ_UPDATE reports `FREQ_UPD`. -/
theorem test_freqUpdate : (after .freqUpdate running).ctl.irqStatus = 0x008#10 := by decide
/-- V101. -/
theorem test_v101_pilotRef : pilotRef cfgReset 1440 = ⟨f1, 0xBF800000#32⟩ := by decide +kernel
/-- V102: a noiseless pilot symbol is worth `C(1, 0)`. -/
theorem test_v102_pilot : (after (.pilotSymbol 0#8 0#8 ⟨fHalf, 0xBF000000#32⟩) running).cpr.pacc = ⟨f1, f0⟩ := by
  decide +kernel
/-- V103: a block of zeros is absent. -/
theorem test_v103_pilot_absent : (after (.pilotSymbol 0#8 35#8 czero)
    { running with cpr := inFrame 1566 }).cnt.pilotFailCnt = 1#32 := by decide +kernel
/-- V112: `C(1, 2)` turned by 1. -/
theorem test_v112_rotq : rotq ⟨f1, f2⟩ 1 = ⟨0xC0000000#32, f1⟩ ∧ rotq ⟨f1, f2⟩ 3 = ⟨f2, 0xBF800000#32⟩ := by decide
/-- V115. -/
theorem test_v115_dscStep : (after .dscStep
    { running with fifo := { running.fifo with l56 := [.data ⟨f1, f2⟩ 16#7 1#32 0 0] } }).dsc.cur =
      ⟨true, 1#32, 16#7, 32400, 1, [⟨f1, f2⟩], false⟩ := by decide +kernel
/-- V116. -/
theorem test_v116_abort : (after .dscStep
    { running with fifo := { running.fifo with l56 := [.abort 2#32] } }).cnt.dropCnt = 1#32 := by decide

/-! ## Witnesses: for each obligation with hypotheses, a state and operands that meet them all -/

/-- DecodeInvertsEncode, at the bounds of the checked operands. -/
theorem witness_DecodeInvertsEncode :
    WellFormed (.mix czero 33281#16) = true ∧ WellFormed (.pilotSymbol 21#8 35#8 czero) = true
      ∧ WellFormed (.reserved 0x00000001#32) = true ∧ WellFormed (.reserved 0x07000000#32) = true
      ∧ WellFormed (.csrWrite 0x008#12 2 0#32) = true := by decide

/-- DecodedIsWellFormed. -/
theorem witness_DecodedIsWellFormed :
    decode (.unit 0x2301C00000003F80000008#88) = .ok (.pilotSymbol 1#8 35#8 ⟨0x3F800000#32, 0xC0000000#32⟩) := rfl

/-- StepRunsPresented: a state that presents an operation, one that presents none, one with no agenda. -/
theorem witness_StepRunsPresented :
    (∃ p rest i, ({ running with agenda := [.present (.unit 4#88), .cprStep] } : State).agenda = .present p :: rest
      ∧ decode p = .ok i)
    ∧ (∃ p rest why, ({ running with agenda := [.present (.unit 10#88)] } : State).agenda = .present p :: rest
      ∧ decode p = .error why)
    ∧ running.agenda = [] :=
  ⟨⟨_, _, _, rfl, rfl⟩, ⟨_, _, _, rfl, rfl⟩, rfl⟩

/-- A running state with one item in each staging queue. -/
def staged : State :=
  { running with
    agc := { running.agc with outq := [⟨czero, 1#64⟩] }
    mf := { running.mf with outq := [⟨[czero], 1#64⟩] }
    str := { running.str with outq := [⟨czero, 1#64⟩] }
    pls := { running.pls with outq := [⟨czero, 1#64, 0#32, 1#32, 16#7, 0⟩] }
    cpr := { running.cpr with outq := [.abort 1#32] } }

/-- DrainSteps: staged items, and room for them. -/
theorem witness_DrainSteps :
    staged.agc.outq ≠ [] ∧ staged.mf.outq ≠ [] ∧ staged.str.outq ≠ [] ∧ staged.pls.outq ≠ [] ∧ staged.cpr.outq ≠ []
      ∧ staged.ctl.running = true ∧ staged.fifo.l12.length < Config.depthLink
      ∧ staged.dsc.outbuf.length < Config.outFrames :=
  ⟨by decide, by decide, by decide, by decide, by decide, rfl, Nat.succ_pos _, Nat.succ_pos _⟩

/-- UnitStepsCommute. -/
theorem witness_UnitStepsCommute :
    Instr.agcStep ∈ unitSteps ∧ Instr.plsStep ∈ unitSteps ∧ Instr.agcStep ≠ .plsStep := by decide

/-- RefusedAccess: each reason at a boundary: a size of 2, the last byte of a word, the first offset after `STR_KI` and the
window's last word. -/
theorem witness_RefusedAccess :
    (2 : Nat) ≠ 4 ∧ (0x003#12).toNat % 4 ≠ 0 ∧ (∀ r : Csr, csrOffset r ≠ 0x254#12) ∧ ∀ r : Csr, csrOffset r ≠ 0xFFC#12 :=
  ⟨by decide, by decide, by intro r; cases r <;> decide, by intro r; cases r <;> decide⟩

/-- AccessTypes: a register of each access type. -/
theorem witness_AccessTypes : csrAccess .strKi = .ro ∧ csrAccess .tapIndex = .rw ∧ csrAccess .irqStatus = .w1c := by decide

/-- ActiveConfigurationFrozen and UnitsIgnoreShadow: steps that answer a next state, of an action that is no power-on reset; a
stopped state under an action that presents no COMMIT. -/
theorem witness_ActiveConfigurationFrozen :
    (∃ t, agentStep .cprStep running = .next t) ∧ running.ctl.running = true ∧ Action.cprStep ≠ .powerOn
      ∧ (∃ t, agentStep (.drain .agc) State.reset = .next t) ∧ ¬ presents (.drain .agc) .commit
      ∧ isUnitOp .plsStep = true ∧ ∃ t, exec .plsStep running = .next t :=
  ⟨⟨_, rfl⟩, rfl, by decide, ⟨_, rfl⟩, (by rintro ⟨p, h, -⟩; cases h), rfl, ⟨_, rfl⟩⟩

/-- StreamBeatsTaken: a running block with an empty `F_IN`; an empty output buffer, and a buffered frame. -/
theorem witness_StreamBeatsTaken :
    running.ctl.running = true ∧ running.fifo.fIn.length < Config.depthIn ∧ State.reset.dsc.outbuf = []
      ∧ ({ State.reset with dsc := { State.reset.dsc with outbuf := [⟨16#7, 1, [czero]⟩] } } : State).dsc.outbuf ≠ [] :=
  ⟨rfl, Nat.succ_pos _, rfl, nofun⟩

/-- CommitResult: the reset shadow configuration is legal; a roll-off of 0 is not (V29). -/
theorem witness_CommitResult :
    State.reset.ctl.running = false ∧ cfgMask State.reset.shadow = 0#17
      ∧ cfgMask { cfgReset with rrcRolloff := 0#32 } ≠ 0#17 := by decide +kernel

/-- SimpleCommands and CommandDispatch: a valid configuration, none, and words of each rejected shape at the bounds of
`OPCODE` and `ARG`. -/
theorem witness_CommandDispatch :
    running.ctl.cfgValid = true ∧ State.reset.ctl.cfgValid = false ∧ running.ctl.running = true
      ∧ reservedWord 0x07000000#32 = true ∧ 6 < ((0x07000000#32).extractLsb' 24 8).toNat
      ∧ ((0x06FFFFFF#32).extractLsb' 24 8).toNat ≤ 6 ∧ (0x06FFFFFF#32).extractLsb' 0 24 ≠ 0#24 := by decide

/-- NotEnabledNotTaken: the block stopped; the queues empty; staged items; a completed frame. -/
theorem witness_NotEnabledNotTaken :
    State.reset.ctl.running = false ∧ running.fifo.fIn = [] ∧ running.fifo.l56 = [] ∧ staged.pls.outq ≠ []
      ∧ staged.cpr.outq ≠ []
      ∧ ({ running with dsc := { running.dsc with cur := ⟨true, 1#32, 16#7, 1, 1, [czero], true⟩ } } : State).dsc.cur.done = true := by
  decide

/-- SumAndProductRoundToNearest: `2^24 + 1`, which lies halfway between two values, and `0.5 * 2.0`; all finite. -/
theorem witness_SumAndProductRoundToNearest :
    isfinite 0x4B800000#32 = true ∧ isfinite f1 = true ∧ isfinite (fadd 0x4B800000#32 f1) = true
      ∧ fadd 0x4B800000#32 f1 = 0x4B800000#32 ∧ isfinite (fmul fHalf f2) = true ∧ isfinite 0x4B800001#32 = true := by
  decide +kernel

/-- ArithmeticRounds: a divisor that is not 0 and an exact cancellation; operands at the greatest finite value, a NaN, both
infinities and a divisor 0; the square root's least argument. -/
theorem witness_ArithmeticRounds :
    isfinite f1 = true ∧ fval f1 ≠ 0 ∧ 0 ≤ fval f0 ∧ fval f1 + fval (fneg f1) = 0 ∧ isfinite 0x7F7FFFFF#32 = true
      ∧ isnan 0x7FC00000#32 = true ∧ isinf 0x7F800000#32 = true ∧ isinf 0xFF800000#32 = true
      ∧ fsign 0x7F800000#32 = false ∧ isnan (fmul 0x7F800000#32 f1) = false ∧ isnan (fdiv f1 f2) = false
      ∧ feq f1 f0 = false ∧ feq 0x80000000#32 f0 = true := by
  decide +kernel

/-- ArgAndCisProperties: the least and the greatest positive finite value, and a value off the negative real axis. -/
theorem witness_ArgAndCisProperties :
    isfinite 1#32 = true ∧ flt f0 1#32 = true ∧ isfinite 0x7F7FFFFF#32 = true ∧ flt f0 0x7F7FFFFF#32 = true
      ∧ ¬ (feq f1 f0 = true ∧ flt f0 f0 = true) := by decide

/-- SaturationBounds: a NaN, the two bounds, and the values next to them and the infinities beyond. -/
theorem witness_SaturationBounds :
    isnan 0x7FC00000#32 = true ∧ fle 0xC7800000#32 0xC7800000#32 = true ∧ fle 0x47800000#32 0x47800000#32 = true
      ∧ flt 0x47800000#32 0x47800001#32 = true ∧ flt 0xC7800001#32 0xC7800000#32 = true
      ∧ flt 0x47800000#32 0x7F800000#32 = true ∧ flt 0xFF800000#32 0xC7800000#32 = true := by decide

/-- AgcStepResult and AgcGainBounded: a sample waits, the reset configuration is legal and the gain finite. -/
theorem witness_AgcGainBounded :
    (sampled ⟨f1, f0⟩).fifo.fIn = [⟨f1, f0⟩] ∧ (sampled ⟨f1, f0⟩).ctl.running = true ∧ (sampled ⟨f1, f0⟩).agc.outq = []
      ∧ cfgMask (sampled ⟨f1, f0⟩).act.cfg = 0#17 ∧ isfinite (sampled ⟨f1, f0⟩).agc.g = true := by decide +kernel

/-- MfStepResult. -/
theorem witness_MfStepResult :
    (filtered ⟨f2, f0⟩).fifo.l12 = [⟨⟨f2, f0⟩, 7#64⟩] ∧ (filtered ⟨f2, f0⟩).ctl.running = true
      ∧ (filtered ⟨f2, f0⟩).mf.outq = [] := by decide

/-- PrototypeProperties and DerivedCoefficients: under the reset configuration there are taps (the last index is 640) and 32
branches, on both sides of the middle one. -/
theorem witness_PrototypeProperties :
    cfgMask cfgReset = 0#17 ∧ (deriveAct cfgReset).l = 641 ∧ (deriveAct cfgReset).n = 32 ∧ 640 < 641 ∧ 16 ≤ 32 / 2
      ∧ 32 / 2 < 17 ∧ 31 < 32 := by decide +kernel

/-- StrStepResult: an item waits and a strobe lies in it; and a midpoint lies in the item. -/
theorem witness_StrStepResult :
    (timed ⟨f1, f0⟩).fifo.l23 = [⟨[⟨f1, f0⟩], 9#64⟩] ∧ (timed ⟨f1, f0⟩).ctl.running = true
      ∧ (timed ⟨f1, f0⟩).str.outq = [] ∧ (timed ⟨f1, f0⟩).str.midPending = false ∧ (timed ⟨f1, f0⟩).str.cS = 0
      ∧ (strobe [⟨f1, f0⟩] 9#64 (timed ⟨f1, f0⟩)).str.cM ≠ 0
      ∧ ({ strReset smallAct with midPending := true, cS := 1 } : Str).cM = 0 := by decide +kernel

/-- TimingLoopBounded: the reset configuration with finite gains, integrator and error; an output at the lower bound and a
position at 0. -/
theorem witness_TimingLoopBounded :
    fle f0 cfgReset.strMaxDev = true ∧ isfinite cfgReset.strMaxDev = true ∧ isfinite actReset.kp = true
      ∧ isfinite actReset.ki = true ∧ isfinite f1 = true ∧ cfgMask cfgReset = 0#17
      ∧ fle (fneg cfgReset.strMaxDev) (fneg cfgReset.strMaxDev) = true
      ∧ fle (fneg cfgReset.strMaxDev) cfgReset.strMaxDev = true ∧ fle f0 f0 = true ∧ flt f0 f1 = true := by decide +kernel

/-- R500, R505: the SOF bits as the rule lists them, and `HREF(p)[0]`, `HREF(p)[1]` of the rule's example. -/
theorem test_header_reference :
    (List.range 26).map (fun k => (headerBit 16#7 k).toNat) =
        [0, 1, 1, 0, 0, 0, 1, 1, 0, 1, 0, 0, 1, 0, 1, 1, 1, 0, 1, 0, 0, 0, 0, 0, 1, 0]
      ∧ href cfgReset 16#7 0 = ⟨f1, f1⟩ ∧ href cfgReset 16#7 1 = ⟨f1, 0xBF800000#32⟩ := by decide +kernel

/-- NearestCodewordDecision: 15 errors. -/
theorem witness_NearestCodewordDecision : popcount64 0x7FFF#64 ≤ 15 ∧ popcount64 0x7FFF#64 = 15 := by decide

/-- FrameLayout: a dummy and both ends of each row of the slot table; supported frames with and without pilots, their first and
last data index and their last position. -/
theorem witness_FrameLayout :
    [3#7, 4#7, 47#7, 48#7, 71#7, 72#7, 95#7, 96#7, 115#7].map (fun p => p.toNat / 4) = [0, 1, 11, 12, 17, 18, 23, 24, 28]
      ∧ [4#7, 6#7, 48#7, 50#7, 72#7, 74#7, 96#7, 98#7, 0#7].map slots = [360, 90, 240, 60, 180, 45, 144, 36, 36]
      ∧ supported 17#7 = true ∧ modcodOf 17#7 ≠ 0 ∧ 33281 < frameLen 17#7 ∧ 32399 < 90 * slots 17#7
      ∧ supported 98#7 = true ∧ modcodOf 98#7 ≠ 0 ∧ 0 < 90 * slots 98#7 := by decide

/-- HeaderTestAndDecode and NoiselessHeaderDecodes: a ready synchroniser with a noiseless header in its window. -/
theorem witness_NoiselessHeaderDecodes :
    (windowed 16#7).ctl.running = true ∧ (windowed 16#7).pls.outq = [] ∧ cfgMask (windowed 16#7).act.cfg = 0#17
      ∧ (windowed 16#7).pls.w = (List.range 90).map (href (windowed 16#7).act.cfg 16#7) :=
  ⟨rfl, rfl, by decide +kernel, rfl⟩

/-- The reset configuration with `HDR_SCR` = 1 and the greatest Gold index. -/
def scrambledCfg : Cfg := { cfgReset with syncCtrl := 2#2, goldCode := 262141#18 }

/-- HeaderTestAndDecode and NoiselessHeaderDecodes with `HDR_SCR` = 1: a ready synchroniser with a scrambled noiseless header. -/
theorem witness_NoiselessHeaderDecodes_scrambled :
    ∃ s : State, s.ctl.running = true ∧ s.pls.outq = [] ∧ cfgMask s.act.cfg = 0#17 ∧ s.act.cfg.syncCtrl.getLsbD 1 = true
      ∧ s.pls.w = (List.range 90).map (href s.act.cfg 16#7) :=
  ⟨{ running with
      act := { actReset with cfg := scrambledCfg }
      pls := { running.pls with w := (List.range 90).map (href scrambledCfg 16#7) } },
    rfl, rfl, by decide +kernel, rfl, rfl⟩

/-- SearchStepResult: a symbol waits and the window fills at this step. -/
theorem witness_SearchStepResult :
    (symbolWaits { plsReset with fill := 89 }).fifo.l34 = [⟨⟨f1, f1⟩, 5#64⟩]
      ∧ (symbolWaits { plsReset with fill := 89 }).ctl.running = true
      ∧ (symbolWaits { plsReset with fill := 89 }).pls.outq = []
      ∧ (symbolWaits { plsReset with fill := 89 }).pls.state = .searching := by decide

/-- ConfirmStepResult: an accepted decode is held, no request acts; and a rejected one is held. -/
theorem witness_ConfirmStepResult :
    (symbolWaits (heldPls 16#7 true)).fifo.l34 = [⟨⟨f1, f1⟩, 5#64⟩] ∧ (symbolWaits (heldPls 16#7 true)).ctl.running = true
      ∧ (symbolWaits (heldPls 16#7 true)).pls.outq = [] ∧ (symbolWaits (heldPls 16#7 true)).pls.state = .headerFound
      ∧ quiet (symbolWaits (heldPls 16#7 true))
      ∧ (∃ d, (symbolWaits (heldPls 16#7 true)).pls.pend = some d ∧ d.dec.ok = true)
      ∧ (symbolWaits (heldPls 16#7 false)).pls.state = .headerFound ∧ quiet (symbolWaits (heldPls 16#7 false))
      ∧ ∃ d, (symbolWaits (heldPls 16#7 false)).pls.pend = some d ∧ d.dec.ok = false :=
  ⟨rfl, rfl, rfl, rfl, .inr ⟨rfl, nofun⟩, ⟨_, rfl, rfl⟩, rfl, .inr ⟨rfl, nofun⟩, ⟨_, rfl, rfl⟩⟩

/-- OnlyConfirmationLocks: a step that locks. -/
theorem witness_OnlyConfirmationLocks :
    ∃ t, agentStep (.present (.unit 4#88)) (symbolWaits (heldPls 0#7 true)) = .next t
      ∧ (symbolWaits (heldPls 0#7 true)).pls.state ≠ .locked ∧ t.pls.state = .locked :=
  ⟨_, rfl, by decide, by decide⟩

/-- TrackStepResult at its bounds: the first header symbol of the next frame, the last payload symbol; a stale carrier
recovery request. -/
theorem witness_TrackStepResult :
    (symbolWaits (lockedPls 91)).pls.state = .locked ∧ quiet (symbolWaits (lockedPls 91))
      ∧ (symbolWaits (lockedPls 91)).pls.cnt ≠ 1 ∧ (symbolWaits (lockedPls 91)).pls.cnt ≠ 0
      ∧ (symbolWaits (lockedPls 2)).pls.cnt ≠ 1 ∧ (symbolWaits (lockedPls 2)).ctl.running = true
      ∧ (symbolWaits (lockedPls 2)).pls.outq = []
      ∧ quiet (symbolWaits { lockedPls 2 with cforce := true, cforceEp := 7#32 }) :=
  ⟨rfl, .inr ⟨rfl, nofun⟩, by decide, by decide, by decide, rfl, rfl, .inr ⟨rfl, fun _ => by decide⟩⟩

/-- ForcedSearch: the host's request while a header is held, and carrier recovery's in the epoch it names while locked. -/
theorem witness_ForcedSearch :
    forced (symbolWaits { heldPls 16#7 true with force := true })
      ∧ forced (symbolWaits { lockedPls 100 with cforce := true, cforceEp := 0#32 })
      ∧ (symbolWaits { lockedPls 100 with cforce := true, cforceEp := 0#32 }).ctl.running = true
      ∧ (symbolWaits { lockedPls 100 with cforce := true, cforceEp := 0#32 }).pls.outq = [] :=
  ⟨⟨by decide, .inl rfl⟩, ⟨by decide, .inr ⟨rfl, rfl⟩⟩, rfl, rfl⟩

/-- MixResult, EstimateAndPhaseReference and PilotSymbolResult: carrier recovery may run; an estimate waits at position 0. -/
theorem witness_MixResult :
    running.ctl.running = true ∧ running.cpr.outq = []
      ∧ ({ running with cpr := { running.cpr with fPendV := true } } : State).cpr.fPendV = true := by decide

/-- PilotSymbolResult: a block without energy is absent at its last symbol; one with `pacc = C(72, 0)` and `pen = 72` whose
last symbol adds nothing is present. -/
theorem witness_PilotSymbolResult :
    flt f0 (fadd running.cpr.pen (cnorm2 czero)) = false
      ∧ flt f0 (fadd f72 (cnorm2 czero)) = true
      ∧ flt (fdiv (cnorm2 (cadd ⟨f72, f0⟩ (cmul czero (conj (pilotRef cfgReset 1475))))) (fmul f72 (fadd f72 (cnorm2 czero))))
        running.act.cfg.pilotThresh = false := by
  decide +kernel

/-- A symbol of PLS value 17 at position `pos` of frame `fid`. -/
def symbolAt (fid : BitVec 32) (pos : Nat) : Item45 := ⟨⟨f1, f1⟩, 1#64, 3#32, fid, 17#7, pos⟩

/-- FrameStartAndDrop: the first symbol of a frame after one that was cut, of the epoch that failed and of another; a later
symbol of a dropped frame; and a symbol of another frame, which continues none. -/
theorem witness_FrameStartAndDrop :
    (tagged { inFrame 7 with failV := true, failEpoch := 3#32 } (symbolAt 2#32 0)).fifo.l45 = [symbolAt 2#32 0]
      ∧ (tagged { inFrame 7 with failV := true, failEpoch := 3#32 } (symbolAt 2#32 0)).ctl.running = true
      ∧ (inFrame 7).outq = [] ∧ (symbolAt 2#32 0).pos = 0 ∧ (symbolAt 2#32 0).ep = 3#32
      ∧ (afterAgent .cprStep (tagged { inFrame 7 with failV := true, failEpoch := 3#32 } (symbolAt 2#32 0))).cpr.outq =
        [.abort 1#32, .abort 2#32]
      ∧ (afterAgent .cprStep (tagged (inFrame 7) (symbolAt 2#32 0))).cpr.outq = [.abort 1#32]
      ∧ ({ (inFrame 7).fr with drop := true } : FrameCtx).next = (symbolAt 1#32 7).pos
      ∧ ({ (inFrame 7).fr with drop := true } : FrameCtx).fid = (symbolAt 1#32 7).fid
      ∧ (symbolAt 2#32 7).fid ≠ (inFrame 7).fr.fid := by decide +kernel

/-- HeaderSymbolStep: the second header symbol and the last one, with the frame count below and at `PL_FREQ_EST_PERIOD`. -/
theorem witness_HeaderSymbolStep :
    (tagged (inFrame 1) (symbolAt 1#32 1)).fifo.l45 = [symbolAt 1#32 1] ∧ (tagged (inFrame 1) (symbolAt 1#32 1)).ctl.running = true
      ∧ (inFrame 1).outq = [] ∧ (symbolAt 1#32 1).pos ≠ 0 ∧ (symbolAt 1#32 89).pos < 90 ∧ (inFrame 1).fr.valid = true
      ∧ (inFrame 1).fr.drop = false ∧ (symbolAt 1#32 1).fid = (inFrame 1).fr.fid ∧ (symbolAt 1#32 1).pos = (inFrame 1).fr.next
      ∧ (symbolAt 1#32 89).pos = (inFrame 89).fr.next ∧ 6#16 + 1#16 ≠ running.act.cfg.plFreqEstPeriod
      ∧ 7#16 + 1#16 = running.act.cfg.plFreqEstPeriod := by decide

/-- PilotSymbolStep: the first, the last but one and the last symbol of a pilot block. -/
theorem witness_PilotSymbolStep :
    (tagged (inFrame 1530) (symbolAt 1#32 1530)).fifo.l45 = [symbolAt 1#32 1530] ∧ (symbolAt 1#32 1530).pos ≠ 0
      ∧ (tagged (inFrame 1530) (symbolAt 1#32 1530)).ctl.running = true ∧ (inFrame 1530).outq = []
      ∧ (inFrame 1530).fr.valid = true ∧ (inFrame 1530).fr.drop = false ∧ (symbolAt 1#32 1530).fid = (inFrame 1530).fr.fid
      ∧ (symbolAt 1#32 1530).pos = (inFrame 1530).fr.next ∧ posClass (inFrame 1530).fr.p 1530 = .pilot 0 0
      ∧ posClass (inFrame 1564).fr.p 1564 = .pilot 0 34 ∧ posClass (inFrame 1565).fr.p 1565 = .pilot 0 35 := by decide

/-- PilotSymbolStep, the absent branch: the last symbol of a block without energy. -/
theorem witness_PilotSymbolStep_absent :
    (afterAgent .cprStep (tagged (inFrame 1565) { symbolAt 1#32 1565 with z := czero })).cnt.pilotFailCnt = 1#32
      ∧ (afterAgent .cprStep (tagged (inFrame 1565) { symbolAt 1#32 1565 with z := czero })).cpr.fr.drop = true := by
  decide +kernel

/-- PilotSymbolStep, the present branch: the last symbol, without energy, of a block with `pacc = C(72, 0)` and `pen = 72`; a
held data symbol is released. -/
theorem witness_PilotSymbolStep_present :
    (afterAgent .cprStep (tagged { inFrame 1565 with pacc := ⟨f72, f0⟩, pen := f72, hold := [⟨czero, 90, 0⟩] }
      { symbolAt 1#32 1565 with z := czero })).cpr.outq.length = 1 := by
  decide +kernel

/-- DataSymbolHeldOrForwarded: the first data symbol of a frame (held) and the first after its last pilot block (forwarded). -/
theorem witness_DataSymbolHeldOrForwarded :
    (tagged (inFrame 90) ⟨⟨f1, f1⟩, 1#64, 0#32, 1#32, 17#7, 90⟩).fifo.l45 = [⟨⟨f1, f1⟩, 1#64, 0#32, 1#32, 17#7, 90⟩]
      ∧ (tagged (inFrame 90) ⟨⟨f1, f1⟩, 1#64, 0#32, 1#32, 17#7, 90⟩).ctl.running = true
      ∧ (inFrame 90).outq = [] ∧ (inFrame 90).fr.valid = true ∧ (inFrame 90).fr.drop = false ∧ (inFrame 90).fr.next = 90
      ∧ (inFrame 90).fr.fid = 1#32 ∧ posClass (inFrame 90).fr.p 90 = .data 0 ∧ (90 - 90) / 1476 < (inFrame 90).fr.p
      ∧ posClass (inFrame 32562).fr.p 32562 = .data 31680 ∧ ¬ (32562 - 90) / 1476 < (inFrame 32562).fr.p := by decide

/-- DscStepResult: a data item and an ABORT wait. -/
theorem witness_DscStepResult :
    ({ running with fifo := { running.fifo with l56 := [.data czero 16#7 1#32 0 0] } } : State).fifo.l56 =
        [.data czero 16#7 1#32 0 0]
      ∧ ({ running with fifo := { running.fifo with l56 := [.abort 1#32] } } : State).fifo.l56 = [.abort 1#32]
      ∧ running.ctl.running = true ∧ running.dsc.cur.done = false := by decide

/-- EventsRaisedBySourcesOnly: a step that raises an event. -/
theorem witness_EventsRaisedBySourcesOnly :
    ∃ t, agentStep (.present (.bus .read 0x300#12 4 0#32)) State.reset = .next t ∧ raises 9 State.reset t :=
  ⟨_, rfl, by decide, by decide⟩

/-- PendingAndRunningPersist: a step that is no power-on reset and no write to `IRQ_STATUS`, and one that changes
`RUNNING`. -/
theorem witness_PendingAndRunningPersist :
    (∃ t, agentStep .cprStep running = .next t) ∧ (Action.cprStep ≠ .powerOn)
      ∧ (¬ ∃ w, presents .cprStep (.csrWrite 0x018#12 4 w))
      ∧ ∃ t, agentStep (.present (.bus .write 0x008#12 4 0x03000000#32)) running = .next t
        ∧ t.ctl.running ≠ running.ctl.running :=
  ⟨⟨_, rfl⟩, by decide, (by rintro ⟨w, p, h, -⟩; cases h), ⟨_, rfl, by decide⟩⟩

/-- A running, locked block with a symbol waiting and PLS_STEP next. -/
def lockedRun : State := { symbolWaits (lockedPls 100) with agenda := [.present (.unit 4#88)] }

/-- A stopped block that presents a write of `IRQ_ENABLE`. -/
def stoppedRun : State := { State.reset with agenda := [.present (.bus .write 0x01C#12 4 0x3FF#32)] }

/-- A running block under the reset configuration, committed, that presents a read. -/
def committedRun : State :=
  { running with
    act := deriveAct cfgReset
    mf := mfReset (deriveAct cfgReset)
    agenda := [.present (.bus .read 0x000#12 4 0#32)] }

/-- StepKeepsRegistersAndBounds: a stopped and a running state with the three invariants, which step. -/
theorem witness_StepKeepsRegistersAndBounds :
    MirrorInv stoppedRun ∧ ControlInv stoppedRun ∧ FrontInv stoppedRun ∧ (∃ t, step stoppedRun = .next t)
      ∧ MirrorInv committedRun ∧ ControlInv committedRun ∧ FrontInv committedRun ∧ ∃ t, step committedRun = .next t :=
  have z : ∀ n, 0 ≤ n := Nat.zero_le
  have l : (deriveAct cfgReset).l ≠ 0 := by decide +kernel
  have x : committedRun.mf.x.length = 2 * (deriveAct cfgReset).kh + 1 := by
    rw [show committedRun.mf = mfReset (deriveAct cfgReset) from rfl]
    simp [mfReset, l]
  ⟨⟨rfl, rfl, rfl, rfl, rfl, .inl rfl, rfl⟩, ⟨nofun, nofun, nofun, nofun, rfl⟩,
    ⟨z _, z _, z _, z _, z _, z _, z _, z _, z _, rfl, rfl⟩, ⟨_, rfl⟩,
    ⟨rfl, rfl, rfl, rfl, rfl, .inl rfl, rfl⟩, ⟨fun _ => rfl, fun _ => rfl, fun _ => by decide +kernel, fun _ => rfl, rfl⟩,
    ⟨z _, z _, z _, z _, z _, z _, z _, z _, z _, x.trans (if_neg l).symm, x.trans (if_pos ⟨rfl, l⟩).symm⟩, ⟨_, rfl⟩⟩

/-- An STR_STEP at the head of the agenda runs. -/
theorem step_strStep (s : State) : ∃ t, step { s with agenda := [.present (.unit 2#88)] } = .next t := by
  have h : step { s with agenda := [.present (.unit 2#88)] } = execStrStep { s with agenda := [] } := rfl
  rw [h]
  rcases Laws.execStrStep_cases { s with agenda := [] } with ⟨_, _, _, _, _, h⟩ | h <;> exact ⟨_, h⟩

/-- StepKeepsTimingLoop: a state with the invariant and finite gains, with an item waiting and STR_STEP next. -/
theorem witness_StepKeepsTimingLoop :
    TimingInv { timed ⟨f1, f0⟩ with agenda := [.present (.unit 2#88)] } ∧ isfinite (timed ⟨f1, f0⟩).act.kp = true
      ∧ isfinite (timed ⟨f1, f0⟩).act.ki = true ∧ ∃ t, step { timed ⟨f1, f0⟩ with agenda := [.present (.unit 2#88)] } = .next t := by
  refine ⟨⟨by decide +kernel, ?_, ?_, ?_, by decide, by decide, by decide, by decide⟩, by decide, by decide, step_strStep _⟩
  · intro it hit y hy
    rw [show (timed ⟨f1, f0⟩).fifo.l23 ++ (timed ⟨f1, f0⟩).mf.outq = [⟨[⟨f1, f0⟩], 9#64⟩] from rfl, List.mem_singleton] at hit
    subst hit
    rw [List.mem_singleton] at hy
    subst hy
    exact ⟨by decide, by decide, by decide, by decide⟩
  all_goals exact ⟨by decide, by decide, by decide, by decide⟩

/-- StepKeepsSynchroniser: a locked state with the invariant that steps. -/
theorem witness_StepKeepsSynchroniser : PlsInv lockedRun ∧ ∃ t, step lockedRun = .next t :=
  ⟨⟨by decide, by decide, by decide, by decide, by decide, nofun, fun _ => by decide, fun h => absurd rfl h⟩, ⟨_, rfl⟩⟩

/-- A running carrier recovery inside a frame with one held symbol, with its step next. -/
def heldRun : State :=
  { tagged { inFrame 91 with hold := [⟨⟨f1, f1⟩, 90, 0⟩] } ⟨⟨f1, f1⟩, 1#64, 0#32, 1#32, 17#7, 91⟩ with agenda := [.cprStep] }

/-- StepKeepsCarrierBounds: a state inside a frame with the invariant that steps. -/
theorem witness_StepKeepsCarrierBounds : CprInv heldRun ∧ ∃ t, step heldRun = .next t :=
  ⟨⟨by decide, by decide, by decide, by decide, nofun, fun _ => by decide⟩, ⟨_, rfl⟩⟩

/-- A block with a buffered frame of a dummy's 3240 symbols, whose next beat is taken. -/
def bufferedRun : State :=
  { running with
    dsc := { running.dsc with outbuf := [⟨0#7, 3240, List.replicate 3240 czero⟩] }
    agenda := [.present .outTake] }

/-- StepKeepsFramesComplete: a state with a buffered frame and the invariant that steps. -/
theorem witness_StepKeepsFramesComplete : DscInv bufferedRun ∧ ∃ t, step bufferedRun = .next t := by
  refine ⟨⟨nofun, nofun, ?_, Nat.succ_le_succ (Nat.zero_le _), ?_, nofun⟩, ⟨_, rfl⟩⟩
  · intro f hf
    rw [show bufferedRun.dsc.outbuf = [⟨0#7, 3240, List.replicate 3240 czero⟩] from rfl, List.mem_singleton] at hf
    subst hf
    exact ⟨List.length_replicate, rfl, Nat.succ_pos _⟩
  · rintro f rest h
    cases h
    exact Nat.succ_pos _

/-! ## The checks that evaluate a header or the scrambling sequence -/

/-- V73: a noiseless header has ratio 1.0. -/
theorem test_v73_hdrTest : (after .hdrTest (windowed 16#7)).live.corrLast = 0x3F800000#32 := by decide +kernel

/-- V78. -/
theorem test_v78_hdrDecode : (after .hdrDecode (windowed 17#7)).live.lastPls = 17#7 := by decide +kernel

/-- V110: values 0 to 2 of `R_0` and `R_100`. -/
theorem test_v110_gold : (List.range 3).map (goldR 0) = [0, 1, 1] ∧ (List.range 3).map (goldR 100) = [3, 2, 2] := by
  decide +kernel

/-- CheckResult: the last symbol of a header, no request acting. The window is no header and one check may fail: the flywheel
branch. -/
theorem witness_CheckResult :
    (symbolWaits (lockedPls 1)).fifo.l34 = [⟨⟨f1, f1⟩, 5#64⟩] ∧ (symbolWaits (lockedPls 1)).ctl.running = true
      ∧ (symbolWaits (lockedPls 1)).pls.outq = [] ∧ (symbolWaits (lockedPls 1)).pls.state = .locked
      ∧ quiet (symbolWaits (lockedPls 1)) ∧ (symbolWaits (lockedPls 1)).pls.cnt = 1
      ∧ (after .plsStep (symbolWaits (lockedPls 1))).cnt.dropCnt = 1#32 :=
  ⟨rfl, rfl, rfl, rfl, .inr ⟨rfl, nofun⟩, rfl, by decide +kernel⟩

/-- CheckResult, the lost branch: the third failed check in a row. -/
theorem witness_CheckResult_lost :
    quiet (symbolWaits { lockedPls 1 with miss := 2#8 }) ∧ (symbolWaits { lockedPls 1 with miss := 2#8 }).pls.cnt = 1
      ∧ (symbolWaits { lockedPls 1 with miss := 2#8 }).pls.state = .locked
      ∧ (after .plsStep (symbolWaits { lockedPls 1 with miss := 2#8 })).cnt.lossCnt = 1#32 :=
  ⟨.inr ⟨rfl, nofun⟩, rfl, rfl, by decide +kernel⟩

/-- A locked synchroniser whose next symbol completes the noiseless header of PLS value 16. -/
def headerComes : State :=
  { running with
    pls := { lockedPls 1 with w := czero :: (headerOf 16#7).take 89 }
    fifo := { running.fifo with l34 := [⟨(headerOf 16#7).getD 89 czero, 5#64⟩] } }

/-- CheckResult, the forwarded branch: a noiseless header at the expected offset. -/
theorem witness_CheckResult_forwarded :
    quiet headerComes ∧ headerComes.pls.cnt = 1 ∧ headerComes.pls.state = .locked
      ∧ (after .plsStep headerComes).pls.fwd = true :=
  ⟨.inr ⟨rfl, nofun⟩, rfl, rfl, by decide +kernel⟩

end Sys2Proof.Tests
end

namespace Sys2Proof.Numerics

open Sys2Proof.Machine

/-! ## Sign and magnitude of an encoding (R12) -/

/-- The sign is the top bit of the word. -/
theorem fsign_eq_msb (a : F32) : fsign a = a.msb := by
  simp [fsign, BitVec.msb_eq_decide]

/-- The magnitude is the word without its top bit. -/
theorem fmag_eq_setWidth (a : F32) : fmag a = (a.setWidth 31).toNat := by
  simp [fmag, field]

theorem toNat_eq_sign_mag (a : F32) : a.toNat = (if fsign a then 2 ^ 31 else 0) + fmag a := by
  have lt := a.isLt
  by_cases h : 2 ^ 31 ≤ a.toNat
  · simp only [fsign, fmag, field, h, decide_true, if_true]
    omega
  · simp only [fsign, fmag, field, h, decide_false, Bool.false_eq_true, if_false]
    omega

/-- A word is given by its sign and its magnitude. -/
theorem eq_of_sign_mag {a b : F32} (hs : fsign a = fsign b) (hm : fmag a = fmag b) : a = b :=
  BitVec.eq_of_toNat_eq (by rw [toNat_eq_sign_mag a, toNat_eq_sign_mag b, hs, hm])

/-- The low bit of a word is that of its magnitude. -/
theorem toNat_mod_two (a : F32) : a.toNat % 2 = fmag a % 2 := by
  rw [toNat_eq_sign_mag]
  split <;> omega

theorem toNat_withSign (s : Bool) {n : ℕ} (h : n < 2 ^ 31) :
    (withSign s n).toNat = (if s then 2 ^ 31 else 0) + n := by
  cases s <;> simp [withSign, BitVec.toNat_ofNat] <;> omega

theorem fsign_withSign (s : Bool) {n : ℕ} (h : n < 2 ^ 31) : fsign (withSign s n) = s := by
  rw [fsign, toNat_withSign s h]
  cases s <;> simp
  omega

theorem fmag_withSign (s : Bool) {n : ℕ} (h : n < 2 ^ 31) : fmag (withSign s n) = n := by
  rw [fmag, field, toNat_withSign s h]
  cases s <;> simp <;> omega

@[simp] theorem fsign_fneg (a : F32) : fsign (fneg a) = !fsign a := by
  have top : (0x80000000#32).msb = true := by decide
  simp [fsign_eq_msb, fneg, top]

@[simp] theorem fmag_fneg (a : F32) : fmag (fneg a) = fmag a := by
  simp [fmag_eq_setWidth, fneg, BitVec.setWidth_xor]

@[simp] theorem fsign_fabs (a : F32) : fsign (fabs a) = false := by
  have top : (0x7FFFFFFF#32).msb = false := by decide
  simp [fsign_eq_msb, fabs, top]

@[simp] theorem fmag_fabs (a : F32) : fmag (fabs a) = fmag a := by
  have ones : (0x7FFFFFFF#32).setWidth 31 = BitVec.allOnes 31 := by decide
  rw [fmag_eq_setWidth, fabs, BitVec.setWidth_and, ones, BitVec.and_allOnes, fmag_eq_setWidth]

@[simp] theorem fneg_fneg (a : F32) : fneg (fneg a) = a :=
  eq_of_sign_mag (by simp) (by simp)

/-! Classes of a word (R13). -/

theorem isfinite_iff {a : F32} : isfinite a = true ↔ fmag a < 0x7F800000 := by simp [isfinite]

@[simp] theorem isfinite_fneg (a : F32) : isfinite (fneg a) = isfinite a := by simp [isfinite]
@[simp] theorem isnan_fneg (a : F32) : isnan (fneg a) = isnan a := by simp [isnan]
@[simp] theorem isinf_fneg (a : F32) : isinf (fneg a) = isinf a := by simp [isinf]
@[simp] theorem isnan_fabs (a : F32) : isnan (fabs a) = isnan a := by simp [isnan]

theorem isnan_of_isfinite {a : F32} (h : isfinite a = true) : isnan a = false := by
  simp only [isfinite, isnan, decide_eq_true_eq, decide_eq_false_iff_not] at *
  omega

theorem isinf_of_isfinite {a : F32} (h : isfinite a = true) : isinf a = false := by
  simp only [isfinite, isinf, decide_eq_true_eq, decide_eq_false_iff_not] at *
  omega

theorem isnan_of_isinf {a : F32} (h : isinf a = true) : isnan a = false := by
  simp only [isnan, isinf, decide_eq_true_eq, decide_eq_false_iff_not] at *
  omega

/-- A word is a NaN, an infinity or a finite value. -/
theorem isfinite_of_not {a : F32} (hn : isnan a = false) (hi : isinf a = false) : isfinite a = true := by
  simp only [isfinite, isnan, isinf, decide_eq_true_eq, decide_eq_false_iff_not] at *
  omega

/-- Every NaN an invalid operation delivers is one, whatever its free bits are. -/
@[simp] theorem isnan_qnan (op : ℕ) (a b : F32) : isnan (qnan op a b) = true := by
  have low : (0x7FC00000#31).toNat ≤ ((0x7FC00000#31) ||| (Config.nanBits op a b).setWidth 31).toNat := by
    rw [BitVec.toNat_or]
    exact Nat.left_le_or
  have cut : (0x7FC00000#32).setWidth 31 = 0x7FC00000#31 := by decide
  rw [isnan, decide_eq_true_eq, fmag_eq_setWidth, qnan, BitVec.setWidth_or, cut]
  exact lt_of_lt_of_le (by decide) low

theorem isnan_withSign_of_le (s : Bool) {n : ℕ} (h : n ≤ 0x7F800000) : isnan (withSign s n) = false := by
  rw [isnan, fmag_withSign s (by omega)]
  simpa using h

/-! Comparisons (R13). -/

@[simp] theorem fkey_fneg (a : F32) : fkey (fneg a) = -fkey a := by
  cases h : fsign a <;> simp [fkey, h]

theorem flt_iff {a b : F32} (ha : isnan a = false) (hb : isnan b = false) : flt a b = true ↔ fkey a < fkey b := by
  simp [flt, ha, hb]

theorem fle_iff {a b : F32} (ha : isnan a = false) (hb : isnan b = false) : fle a b = true ↔ fkey a ≤ fkey b := by
  simp [fle, ha, hb]

theorem feq_iff {a b : F32} (ha : isnan a = false) (hb : isnan b = false) : feq a b = true ↔ fkey a = fkey b := by
  simp [feq, ha, hb]

/-- A NaN compares with nothing. -/
theorem compare_nan {a b : F32} (h : isnan a = true ∨ isnan b = true) :
    flt a b = false ∧ fle a b = false ∧ feq a b = false := by
  rcases h with h | h <;> simp [flt, fle, feq, h]

/-- What compares is no NaN. -/
theorem isnan_of_flt {a b : F32} (h : flt a b = true) : isnan a = false ∧ isnan b = false := by
  simp only [flt, Bool.and_eq_true, Bool.not_eq_true'] at h
  exact h.1

theorem isnan_of_fle {a b : F32} (h : fle a b = true) : isnan a = false ∧ isnan b = false := by
  simp only [fle, Bool.and_eq_true, Bool.not_eq_true'] at h
  exact h.1

@[simp] theorem fkey_f0 : fkey f0 = 0 := by decide
@[simp] theorem isnan_f0 : isnan f0 = false := by decide

theorem fkey_eq_zero_iff {a : F32} : fkey a = 0 ↔ fmag a = 0 := by
  cases h : fsign a <;> simp [fkey, h]

/-- Equal to zero, of either sign. -/
theorem feq_f0_iff {a : F32} : feq a f0 = true ↔ fmag a = 0 := by
  cases h : isnan a with
  | false => rw [feq_iff h isnan_f0, fkey_f0, fkey_eq_zero_iff]
  | true =>
    have hm : 0x7F800000 < fmag a := by simpa [isnan] using h
    simp [feq, h]
    omega

/-- Below zero: a number with its sign bit set, and not a zero. -/
theorem flt_f0_iff {a : F32} : flt a f0 = true ↔ isnan a = false ∧ fsign a = true ∧ fmag a ≠ 0 := by
  cases h : isnan a with
  | true => simp [flt, h]
  | false =>
    rw [flt_iff h isnan_f0, fkey_f0]
    cases hs : fsign a <;> simp [fkey, hs, Nat.pos_iff_ne_zero]

/-- Above zero: a number with its sign bit clear, and not a zero. -/
theorem f0_flt_iff {a : F32} : flt f0 a = true ↔ isnan a = false ∧ fsign a = false ∧ fmag a ≠ 0 := by
  cases h : isnan a with
  | true => simp [flt, h]
  | false =>
    rw [flt_iff isnan_f0 h, fkey_f0]
    cases hs : fsign a <;> simp [fkey, hs, Nat.pos_iff_ne_zero]

/-! ## The finite values as multiples of 2^-149 (R12)

Every finite value is an integer number of places of 2^-149. `places` counts them by magnitude, and goes on past the greatest
finite magnitude, where the next binade would stand; so rounding is a statement about a strictly increasing function on `ℕ`. -/

/-- The magnitude `n` stands for the value `places n * 2^-149`. -/
def places (n : ℕ) : ℕ := if n < 2 ^ 23 then n else (n % 2 ^ 23 + 2 ^ 23) * 2 ^ (n / 2 ^ 23 - 1)

/-- A significand `m` of at most 24 bits at the place `j`; its exponent field carries when `m = 2^24`. -/
theorem places_add {j m : ℕ} (hm : m ≤ 2 ^ 24) (hj : j = 0 ∨ 2 ^ 23 ≤ m) : places (j * 2 ^ 23 + m) = m * 2 ^ j := by
  unfold places
  rcases Nat.lt_or_ge m (2 ^ 23) with small | big
  · obtain rfl : j = 0 := hj.resolve_right (by omega)
    rw [if_pos (by omega)]
    omega
  · rw [if_neg (by omega)]
    rcases hm.lt_or_eq with lt | rfl
    · rw [show (j * 2 ^ 23 + m) % 2 ^ 23 + 2 ^ 23 = m by omega, show (j * 2 ^ 23 + m) / 2 ^ 23 - 1 = j by omega]
    · rw [show (j * 2 ^ 23 + 2 ^ 24) % 2 ^ 23 + 2 ^ 23 = 2 ^ 23 by omega,
        show (j * 2 ^ 23 + 2 ^ 24) / 2 ^ 23 - 1 = j + 1 by omega]
      ring

/-- Every magnitude is a significand below 2^24 at some place. -/
theorem exists_place (n : ℕ) : ∃ j m, n = j * 2 ^ 23 + m ∧ m < 2 ^ 24 ∧ (j = 0 ∨ 2 ^ 23 ≤ m) := by
  rcases Nat.lt_or_ge n (2 ^ 23) with small | big
  · exact ⟨0, n, by omega, by omega, .inl rfl⟩
  · exact ⟨n / 2 ^ 23 - 1, n % 2 ^ 23 + 2 ^ 23, by omega, by omega, .inr (by omega)⟩

theorem places_strictMono : StrictMono places := by
  refine strictMono_nat_of_lt_succ fun n => ?_
  obtain ⟨j, m, rfl, hm, hj⟩ := exists_place n
  rw [places_add hm.le hj, Nat.add_assoc, places_add (by omega) (by omega)]
  exact Nat.mul_lt_mul_of_pos_right (Nat.lt_succ_self m) (by positivity)

@[simp] theorem places_zero : places 0 = 0 := rfl

/-- The sign of a word as a factor. -/
def signOf (neg : Bool) : ℝ := if neg then -1 else 1

@[simp] theorem signOf_false : signOf false = 1 := rfl
@[simp] theorem signOf_true : signOf true = -1 := rfl

theorem signOf_mul_self (s : Bool) : signOf s * signOf s = 1 := by cases s <;> simp

theorem abs_signOf (s : Bool) : |signOf s| = 1 := by cases s <;> simp

theorem signOf_ne_zero (s : Bool) : signOf s ≠ 0 := by cases s <;> simp

/-- The factors of two words multiply to that of the product's sign. -/
theorem signOf_bne (s t : Bool) : signOf (s != t) = signOf s * signOf t := by cases s <;> cases t <;> simp

/-- The significand and the exponent of a word, as places. -/
theorem mant_mul_eq_places (a : F32) : mant a * 2 ^ (max (fexp a) 1 - 1) = places (fmag a) := by
  have lt := a.isLt
  have he : fexp a = fmag a / 2 ^ 23 := by
    simp only [fexp, fmag, field]
    omega
  have hf : ffrac a = fmag a % 2 ^ 23 := by
    simp only [ffrac, fmag, field]
    omega
  unfold mant places
  rw [he, hf]
  rcases Nat.lt_or_ge (fmag a) (2 ^ 23) with small | big
  · rw [if_pos small, if_pos (by omega), show fmag a / 2 ^ 23 = 0 by omega]
    simpa using small
  · rw [if_neg (by omega), if_neg (by omega), show max (fmag a / 2 ^ 23) 1 = fmag a / 2 ^ 23 by omega]

/-- The value of a word's magnitude. -/
theorem mant_mul_zpow (a : F32) : (mant a : ℝ) * 2 ^ expo a = places (fmag a) * 2 ^ (-149 : ℤ) := by
  have he : expo a = ((max (fexp a) 1 - 1 : ℕ) : ℤ) + -149 := by
    unfold expo
    omega
  rw [he, zpow_add₀ two_ne_zero, zpow_natCast, ← mul_assoc, ← mant_mul_eq_places]
  push_cast
  rfl

theorem fval_eq_mant (a : F32) : (fval a : ℝ) = signOf (fsign a) * (mant a * 2 ^ expo a) := by
  cases h : fsign a <;> simp [fval, smant, h]

theorem fval_eq_places (a : F32) : (fval a : ℝ) = signOf (fsign a) * places (fmag a) * 2 ^ (-149 : ℤ) := by
  rw [fval_eq_mant, mant_mul_zpow, mul_assoc]

@[simp] theorem fval_fneg (a : F32) : fval (fneg a) = -fval a := by
  have h : (fval (fneg a) : ℝ) = -(fval a : ℝ) := by
    rw [fval_eq_places, fval_eq_places, fsign_fneg, fmag_fneg]
    cases fsign a <;> simp
  exact_mod_cast h

/-- The value as places, of either sign: a function of the key. -/
def placesOfKey (k : ℤ) : ℤ := k.sign * places k.natAbs

theorem placesOfKey_strictMono : StrictMono placesOfKey := by
  refine strictMono_int_of_lt_succ fun k => ?_
  rcases lt_trichotomy k (-1) with below | rfl | above
  · have lt : places (k + 1).natAbs < places k.natAbs := places_strictMono (by omega)
    rw [placesOfKey, placesOfKey, Int.sign_eq_neg_one_of_neg (by omega), Int.sign_eq_neg_one_of_neg (by omega)]
    omega
  · decide
  · have lt : places k.natAbs < places (k + 1).natAbs := places_strictMono (by omega)
    rcases (show 0 ≤ k by omega).eq_or_lt with rfl | pos
    · decide
    · rw [placesOfKey, placesOfKey, Int.sign_eq_one_of_pos pos, Int.sign_eq_one_of_pos (by omega)]
      omega

theorem fval_eq_key (a : F32) : fval a = placesOfKey (fkey a) * 2 ^ (-149 : ℤ) := by
  have h : (fval a : ℝ) = placesOfKey (fkey a) * 2 ^ (-149 : ℤ) := by
    rw [fval_eq_places]
    rcases Nat.eq_zero_or_pos (fmag a) with zero | pos
    · simp [placesOfKey, fkey, zero]
    · cases hs : fsign a <;> simp [placesOfKey, fkey, hs, Int.sign_eq_one_of_pos, pos]
  exact Rat.cast_injective (α := ℝ) (by push_cast; exact h)

/-- The order of the values is that of the keys. -/
theorem fval_lt_fval {a b : F32} : fval a < fval b ↔ fkey a < fkey b := by
  rw [fval_eq_key, fval_eq_key, mul_lt_mul_iff_left₀ (by positivity), Int.cast_lt, placesOfKey_strictMono.lt_iff_lt]

theorem fval_le_fval {a b : F32} : fval a ≤ fval b ↔ fkey a ≤ fkey b := by
  rw [← not_lt, fval_lt_fval, not_lt]

theorem fval_eq_fval {a b : F32} : fval a = fval b ↔ fkey a = fkey b := by
  rw [le_antisymm_iff, fval_le_fval, fval_le_fval, ← le_antisymm_iff]

theorem fval_f0 : fval f0 = 0 := by simp [fval_eq_key, placesOfKey]

theorem fval_eq_zero_iff {a : F32} : fval a = 0 ↔ fmag a = 0 := by
  rw [← fval_f0, fval_eq_fval, fkey_f0, fkey_eq_zero_iff]

theorem fval_neg_iff {a : F32} : fval a < 0 ↔ fsign a = true ∧ 0 < fmag a := by
  rw [← fval_f0, fval_lt_fval, fkey_f0]
  cases hs : fsign a <;> simp [fkey, hs]

/-! ## Rounding to nearest, ties to even (R13) -/

theorem places_cast_lt {i l : ℕ} (h : i < l) : (places i : ℝ) < places l := by exact_mod_cast places_strictMono h
theorem places_cast_le {i l : ℕ} (h : i ≤ l) : (places i : ℝ) ≤ places l := by
  exact_mod_cast places_strictMono.monotone h

/-- `n` is the magnitude nearest `y` places: no further than the midpoints to its neighbours, and on one only when `n` is even. -/
structure Nearest (n : ℕ) (y : ℝ) : Prop where
  up : 2 * y ≤ places n + places (n + 1)
  up_even : 2 * y = places n + places (n + 1) → n % 2 = 0
  down : ∀ k, n = k + 1 → places k + places n ≤ 2 * y
  down_even : ∀ k, n = k + 1 → places k + places n = 2 * y → n % 2 = 0

theorem nearest_zero : Nearest 0 0 := by
  have h : (0 : ℝ) < places 1 := by norm_num [places]
  constructor <;> simp [h.le]

/-- The nearest magnitude is at least as near as any other, and on a tie with another it is even. -/
theorem Nearest.le_and_even {n : ℕ} {y : ℝ} (h : Nearest n y) (k : ℕ) :
    |(places n : ℝ) - y| ≤ |places k - y| ∧ (|(places n : ℝ) - y| = |places k - y| → k = n ∨ n % 2 = 0) := by
  rcases lt_trichotomy k n with below | rfl | above
  · obtain ⟨p, rfl⟩ : ∃ p, n = p + 1 := ⟨n - 1, by omega⟩
    have kp := places_cast_le (show k ≤ p by omega)
    have pn := places_cast_lt (show p < p + 1 by omega)
    have down := h.down p rfl
    rw [abs_of_nonpos (show (places k : ℝ) - y ≤ 0 by linarith)]
    refine ⟨abs_le.mpr ⟨by linarith, by linarith⟩, fun tie => .inr (h.down_even p rfl ?_)⟩
    rcases abs_choice ((places (p + 1) : ℝ) - y) with e | e <;> rw [e] at tie <;> linarith
  · exact ⟨le_rfl, fun _ => .inl rfl⟩
  · have nk := places_cast_le (show n + 1 ≤ k by omega)
    have nn := places_cast_lt (show n < n + 1 by omega)
    have up := h.up
    rw [abs_of_nonneg (show (0 : ℝ) ≤ places k - y by linarith)]
    refine ⟨abs_le.mpr ⟨by linarith, by linarith⟩, fun tie => .inr (h.up_even ?_)⟩
    rcases abs_choice ((places n : ℝ) - y) with e | e <;> rw [e] at tie <;> linarith

/-- `m` is the multiple of `2^j` places nearest `y`, ties to even, where `2^j` is the last place of `y`'s binade. -/
structure Significand (j m : ℕ) (y : ℝ) : Prop where
  lo : j = 0 ∨ 2 ^ 23 * 2 ^ j ≤ y
  hi : y < 2 ^ 24 * 2 ^ j
  near : 2 * |m * 2 ^ j - y| ≤ 2 ^ j
  even : 2 * |m * 2 ^ j - y| = 2 ^ j → m % 2 = 0

namespace Significand

variable {j m : ℕ} {y : ℝ}

theorem bounds (h : Significand j m y) : m * 2 ^ j - y ≤ 2 ^ j / 2 ∧ y - m * 2 ^ j ≤ 2 ^ j / 2 := by
  have near := h.near
  exact ⟨by linarith [le_abs_self (m * 2 ^ j - y)], by linarith [neg_le_abs (m * 2 ^ j - y)]⟩

theorem le_carry (h : Significand j m y) : m ≤ 2 ^ 24 := by
  have unit : (0 : ℝ) < 2 ^ j := by positivity
  by_contra! gt
  have gt' : (2 ^ 24 + 1 : ℝ) ≤ m := by exact_mod_cast gt
  nlinarith [h.bounds.1, h.hi]

theorem normal (h : Significand j m y) : j = 0 ∨ 2 ^ 23 ≤ m := h.lo.imp_right fun lo => by
  have unit : (0 : ℝ) < 2 ^ j := by positivity
  by_contra! lt
  have lt' : (m + 1 : ℝ) ≤ 2 ^ 23 := by exact_mod_cast lt
  nlinarith [h.bounds.2]

theorem places_eq (h : Significand j m y) : (places (j * 2 ^ 23 + m) : ℝ) = m * 2 ^ j := by
  rw [places_add h.le_carry h.normal]
  push_cast
  rfl

/-- The next magnitude is one `2^j` up; after a carry it may be further, but then `y` lies below. -/
theorem next (h : Significand j m y) :
    (places (j * 2 ^ 23 + m + 1) : ℝ) = (m + 1) * 2 ^ j ∨ y < m * 2 ^ j := by
  rcases h.le_carry.lt_or_eq with lt | carry
  · refine .inl ?_
    rw [Nat.add_assoc, places_add lt (h.normal.imp_right Nat.le_succ_of_le)]
    push_cast
    rfl
  · refine .inr (lt_of_lt_of_eq h.hi ?_)
    rw [carry]
    norm_num

/-- The magnitude before is one `2^j` down; at the start of a binade it may be nearer, but then `y` lies above. -/
theorem prev (h : Significand j m y) {k : ℕ} (hk : j * 2 ^ 23 + m = k + 1) :
    (places k : ℝ) = (m - 1) * 2 ^ j ∨ m * 2 ^ j ≤ y := by
  rcases Nat.lt_or_ge (2 ^ 23) m with gt | le
  · refine .inl ?_
    rw [show k = j * 2 ^ 23 + (m - 1) by omega, places_add (have := h.le_carry; by omega) (.inr (by omega)), Nat.cast_mul,
      Nat.cast_pred (by omega), Nat.cast_pow, Nat.cast_ofNat]
  · rcases Nat.eq_zero_or_pos j with rfl | pos
    · refine .inl ?_
      rw [show k = 0 * 2 ^ 23 + (m - 1) by omega, places_add (by omega) (.inl rfl), Nat.cast_mul,
        Nat.cast_pred (by omega), Nat.cast_pow, Nat.cast_ofNat]
    · obtain start : m = 2 ^ 23 := le_antisymm le (h.normal.resolve_left pos.ne')
      refine .inr (le_of_eq_of_le ?_ (h.lo.resolve_left pos.ne'))
      rw [start]
      norm_num

/-- The encoding of the nearest significand is the nearest magnitude. -/
theorem nearest (h : Significand j m y) : Nearest (j * 2 ^ 23 + m) y := by
  obtain ⟨near_hi, near_lo⟩ := h.bounds
  have even (tie : 2 * |m * 2 ^ j - y| = 2 ^ j) : (j * 2 ^ 23 + m) % 2 = 0 := by
    have := h.even tie
    omega
  have up := places_cast_lt (Nat.lt_succ_self (j * 2 ^ 23 + m))
  have down (k : ℕ) (hk : j * 2 ^ 23 + m = k + 1) : (places k : ℝ) < places (j * 2 ^ 23 + m) :=
    places_cast_lt (by omega)
  rw [h.places_eq] at up
  refine ⟨?_, fun tie => ?_, fun k hk => ?_, fun k hk tie => ?_⟩
  · rw [h.places_eq]
    rcases h.next with e | lt
    · linarith
    · linarith
  · rw [h.places_eq] at tie
    rcases h.next with e | lt
    · exact even (by rw [abs_of_nonpos (by linarith)]; linarith)
    · linarith
  · have lt := down k hk
    rw [h.places_eq] at lt ⊢
    rcases h.prev hk with e | le
    · linarith
    · linarith
  · have lt := down k hk
    rw [h.places_eq] at lt tie
    rcases h.prev hk with e | le
    · exact even (by rw [abs_of_nonneg (by linarith)]; linarith)
    · linarith

end Significand

/-- `m` stands for the number `z` in a rounding: exactly, or as an odd number with at least 26 bits that says only between which
even numbers `z` lies. -/
def StandsFor (m : ℕ) (z : ℝ) : Prop := z = m ∨ m % 2 = 1 ∧ 2 ^ 25 ≤ m ∧ (m - 1 : ℝ) < z ∧ z < m + 1

/-- What `rneShift` answers: the quotient or its successor, whichever is nearer, the even one on a tie. -/
theorem rneShift_cases (m k : ℕ) :
    (rneShift m k = m / 2 ^ k ∧ 2 * (m % 2 ^ k) ≤ 2 ^ k ∧ (2 * (m % 2 ^ k) = 2 ^ k → rneShift m k % 2 = 0))
      ∨ (rneShift m k = m / 2 ^ k + 1 ∧ 2 ^ k ≤ 2 * (m % 2 ^ k) ∧ (2 * (m % 2 ^ k) = 2 ^ k → rneShift m k % 2 = 0)) := by
  have two := Nat.mod_two_eq_zero_or_one (m / 2 ^ k)
  by_cases up : 2 ^ k < 2 * (m % 2 ^ k) ∨ (2 * (m % 2 ^ k) = 2 ^ k ∧ m / 2 ^ k % 2 = 1)
  · rw [show rneShift m k = m / 2 ^ k + 1 from if_pos up]
    omega
  · rw [show rneShift m k = m / 2 ^ k from if_neg up]
    omega

/-- `rneShift` rounds an exact number to the nearest multiple of `2^k`. -/
theorem rneShift_exact (m k : ℕ) :
    2 * |(rneShift m k * 2 ^ k - m : ℝ)| ≤ 2 ^ k
      ∧ (2 * |(rneShift m k * 2 ^ k - m : ℝ)| = 2 ^ k → rneShift m k % 2 = 0) := by
  have split : (m : ℝ) = 2 ^ k * (m / 2 ^ k : ℕ) + (m % 2 ^ k : ℕ) := by exact_mod_cast (Nat.div_add_mod m (2 ^ k)).symm
  have rem_nonneg : (0 : ℝ) ≤ (m % 2 ^ k : ℕ) := by positivity
  have rem_lt : ((m % 2 ^ k : ℕ) : ℝ) < 2 ^ k := by exact_mod_cast Nat.mod_lt m (Nat.two_pow_pos k)
  rcases rneShift_cases m k with ⟨e, near, even⟩ | ⟨e, near, even⟩
  · have dist : |(rneShift m k * 2 ^ k - m : ℝ)| = (m % 2 ^ k : ℕ) := by
      rw [e, split, abs_of_nonpos (by linarith)]
      ring
    rw [dist]
    exact ⟨by exact_mod_cast near, fun tie => even (by exact_mod_cast tie)⟩
  · have dist : |(rneShift m k * 2 ^ k - m : ℝ)| = 2 ^ k - (m % 2 ^ k : ℕ) := by
      rw [e, split, Nat.cast_succ, abs_of_nonneg (by linarith)]
      ring
    have near' : (2 ^ k : ℝ) ≤ 2 * (m % 2 ^ k : ℕ) := by exact_mod_cast near
    rw [dist]
    refine ⟨by linarith, fun tie => even ?_⟩
    have tie' : (2 * (m % 2 ^ k : ℕ) : ℝ) = 2 ^ k := by linarith
    exact_mod_cast tie'

/-- With two bits or more below the last place no odd number lies on a midpoint, nor does a number within 1 of it. -/
theorem rneShift_odd {m k : ℕ} {z : ℝ} (odd : m % 2 = 1) (hk : 2 ≤ k) (lo : (m - 1 : ℝ) < z) (hi : z < m + 1) :
    2 * |rneShift m k * 2 ^ k - z| < 2 ^ k := by
  obtain ⟨d, rfl⟩ : ∃ d, k = d + 2 := ⟨k - 2, by omega⟩
  have four : (2 : ℤ) ^ (d + 2) = 4 * 2 ^ d := by ring
  have near : 2 * |(rneShift m (d + 2) * 2 ^ (d + 2) - m : ℤ)| ≤ 2 ^ (d + 2) := by
    exact_mod_cast (rneShift_exact m (d + 2)).1
  have strict : |(rneShift m (d + 2) * 2 ^ (d + 2) - m : ℤ)| ≤ 2 * 2 ^ d - 1 := by
    rw [four, mul_left_comm] at near ⊢
    have bounds := abs_le.mp (show |(4 * (rneShift m (d + 2) * 2 ^ d) - m : ℤ)| ≤ 2 * 2 ^ d by omega)
    exact abs_le.mpr (by omega)
  have strict' : |(rneShift m (d + 2) * 2 ^ (d + 2) - m : ℝ)| ≤ 2 * 2 ^ d - 1 := by exact_mod_cast strict
  have within : |(m - z : ℝ)| < 1 := abs_lt.mpr ⟨by linarith, by linarith⟩
  have triangle := abs_sub_le (rneShift m (d + 2) * 2 ^ (d + 2) : ℝ) m z
  have four' : (2 : ℝ) ^ (d + 2) = 4 * 2 ^ d := by ring
  linarith

/-- The last place chosen for `m * 2^e` is that of its binade, or the least there is. -/
theorem quantum_cases (m : ℕ) (e : ℤ) :
    quantum m e = -149 ∧ e + Nat.log2 m - 23 ≤ -149 ∨ quantum m e = e + Nat.log2 m - 23 ∧ -149 ≤ e + Nat.log2 m - 23 := by
  unfold quantum
  omega

/-- The binade of a number that `m` stands for is that of `m`. -/
theorem StandsFor.binade {m : ℕ} {z : ℝ} (h : StandsFor m z) (hm : m ≠ 0) :
    (2 : ℝ) ^ Nat.log2 m ≤ z ∧ z < 2 ^ (Nat.log2 m + 1) := by
  have lo : 2 ^ Nat.log2 m ≤ m := Nat.log2_self_le hm
  have hi : m < 2 ^ (Nat.log2 m + 1) := Nat.lt_log2_self
  rcases h with rfl | ⟨odd, big, below, above⟩
  · exact ⟨by exact_mod_cast lo, by exact_mod_cast hi⟩
  · have pos : Nat.log2 m ≠ 0 := fun h0 => by
      rw [h0] at hi
      omega
    obtain ⟨l, hl⟩ : ∃ l, Nat.log2 m = l + 1 := ⟨Nat.log2 m - 1, by omega⟩
    rw [hl] at lo hi ⊢
    have lo' : (2 ^ (l + 1) : ℝ) ≤ m - 1 := by
      rw [← Nat.cast_pred (by omega)]
      exact_mod_cast (show 2 ^ (l + 1) ≤ m - 1 by rw [pow_succ] at lo ⊢; omega)
    have hi' : (m : ℝ) + 1 ≤ 2 ^ (l + 1 + 1) := by
      exact_mod_cast (show m + 1 ≤ 2 ^ (l + 1 + 1) by rw [pow_succ] at hi ⊢; omega)
    exact ⟨by linarith, by linarith⟩

/-- The significand that `roundMag` puts at the last place of `m * 2^e`. -/
def significandAt (m : ℕ) (e : ℤ) : ℕ :=
  if quantum m e ≤ e then m * 2 ^ (e - quantum m e).toNat else rneShift m (quantum m e - e).toNat

theorem roundMag_eq {m : ℕ} (hm : m ≠ 0) (e : ℤ) :
    roundMag m e = min ((quantum m e + 149).toNat * 2 ^ 23 + significandAt m e) 0x7F800000 := by
  simp [roundMag, hm, significandAt]

/-- In units of `2^e`, the significand is the multiple of the last place nearest the number `m` stands for. -/
theorem significandAt_near {m : ℕ} {z : ℝ} (h : StandsFor m z) (e : ℤ) :
    2 * |significandAt m e * (2 : ℝ) ^ (quantum m e - e) - z| ≤ 2 ^ (quantum m e - e)
      ∧ (2 * |significandAt m e * (2 : ℝ) ^ (quantum m e - e) - z| = 2 ^ (quantum m e - e) →
        significandAt m e % 2 = 0) := by
  have unit : (0 : ℝ) < 2 ^ (quantum m e - e) := by positivity
  by_cases fits : quantum m e ≤ e
  · have exact : z = m := h.resolve_right fun ⟨_, big, _⟩ => by
      have bits : 25 ≤ Nat.log2 m := (Nat.le_log2 (by omega)).mpr big
      rcases quantum_cases m e with h | h <;> omega
    have same : (significandAt m e : ℝ) * 2 ^ (quantum m e - e) = z := by
      rw [significandAt, if_pos fits, exact, Nat.cast_mul, Nat.cast_pow, Nat.cast_two, ← zpow_natCast,
        Int.toNat_of_nonneg (by omega), mul_assoc, ← zpow_add₀ two_ne_zero]
      simp
    rw [same, sub_self, abs_zero, mul_zero]
    exact ⟨unit.le, fun tie => absurd tie unit.ne⟩
  · have shift : (2 : ℝ) ^ (quantum m e - e) = 2 ^ (quantum m e - e).toNat := by
      rw [← zpow_natCast, Int.toNat_of_nonneg (by omega)]
    rw [shift, significandAt, if_neg fits]
    rcases h with rfl | ⟨odd, big, lo, hi⟩
    · exact rneShift_exact m _
    · have bits : 25 ≤ Nat.log2 m := (Nat.le_log2 (by omega)).mpr big
      have near := rneShift_odd odd (k := (quantum m e - e).toNat)
        (by rcases quantum_cases m e with h | h <;> omega) lo hi
      exact ⟨near.le, fun tie => absurd tie near.ne⟩

/-- The significand `roundMag` takes is the one nearest the number `m` stands for. -/
theorem significandAt_spec {m : ℕ} {z : ℝ} (h : StandsFor m z) (hm : m ≠ 0) (e : ℤ) :
    Significand (quantum m e + 149).toNat (significandAt m e) (z * 2 ^ (e + 149)) := by
  obtain ⟨lo, hi⟩ := h.binade hm
  obtain ⟨near, even⟩ := significandAt_near h e
  have unit : (0 : ℝ) < 2 ^ (e + 149) := by positivity
  have low : -149 ≤ quantum m e ∧ e + Nat.log2 m - 23 ≤ quantum m e := by
    rcases quantum_cases m e with h | h <;> omega
  have place : (2 : ℝ) ^ (quantum m e + 149).toNat = 2 ^ (quantum m e - e) * 2 ^ (e + 149) := by
    rw [← zpow_natCast, Int.toNat_of_nonneg (by omega), ← zpow_add₀ two_ne_zero]
    congr 1
    ring
  have dist : |significandAt m e * 2 ^ (quantum m e + 149).toNat - z * 2 ^ (e + 149)|
      = |significandAt m e * (2 : ℝ) ^ (quantum m e - e) - z| * 2 ^ (e + 149) := by
    rw [place, ← mul_assoc, ← sub_mul, abs_mul, abs_of_pos unit]
  have top : (2 : ℝ) ^ (Nat.log2 m + 1) ≤ 2 ^ 24 * 2 ^ (quantum m e - e) := by
    rw [← zpow_natCast, ← zpow_natCast 2 24, ← zpow_add₀ two_ne_zero]
    exact zpow_le_zpow_right₀ one_le_two (by push_cast; omega)
  refine ⟨?_, ?_, ?_, ?_⟩
  · rcases quantum_cases m e with ⟨q, _⟩ | ⟨q, _⟩
    · left
      omega
    · right
      have start : (2 : ℝ) ^ 23 * 2 ^ (quantum m e - e) = 2 ^ Nat.log2 m := by
        rw [← zpow_natCast, ← zpow_natCast 2 (Nat.log2 m), ← zpow_add₀ two_ne_zero]
        congr 1
        push_cast
        omega
      rw [place, ← mul_assoc, start]
      gcongr
  · rw [place, ← mul_assoc]
    gcongr
    exact hi.trans_le top
  · rw [dist, place, ← mul_assoc]
    gcongr
  · rw [dist, place, ← mul_assoc]
    exact fun tie => even (mul_right_cancel₀ unit.ne' tie)

/-- `roundMag` answers the nearest magnitude, cut at the infinity. -/
theorem roundMag_nearest {m : ℕ} {z : ℝ} (h : StandsFor m z) (e : ℤ) :
    ∃ n, roundMag m e = min n 0x7F800000 ∧ Nearest n (z * 2 ^ (e + 149)) := by
  by_cases hm : m = 0
  · subst hm
    have zero : z = 0 := by simpa [StandsFor] using h
    exact ⟨0, by simp [roundMag], by simpa [zero] using nearest_zero⟩
  · exact ⟨_, roundMag_eq hm e, (significandAt_spec h hm e).nearest⟩

/-! ## Rounding a real number (R13) -/

theorem places_inf : (places 0x7F800000 : ℝ) * 2 ^ (-149 : ℤ) = 2 ^ 128 := by
  rw [show 0x7F800000 = 254 * 2 ^ 23 + 2 ^ 23 by rfl, places_add (by norm_num) (.inr le_rfl)]
  norm_num

theorem places_greatest : (places 0x7F7FFFFF : ℝ) * 2 ^ (-149 : ℤ) = 2 ^ 128 - 2 ^ 104 := by
  rw [show 0x7F7FFFFF = 253 * 2 ^ 23 + (2 ^ 24 - 1) by rfl, places_add (by norm_num) (.inr (by norm_num))]
  norm_num

/-- The nearest magnitude is finite below the midpoint of `RoundsTo` and the infinity or above from it on. -/
theorem Nearest.lt_inf_iff {n : ℕ} {y : ℝ} (h : Nearest n y) :
    n < 0x7F800000 ↔ y * 2 ^ (-149 : ℤ) < 2 ^ 128 - 2 ^ 103 := by
  have unit : (0 : ℝ) < 2 ^ (-149 : ℤ) := by positivity
  have mid : (places 0x7F7FFFFF + places 0x7F800000 : ℝ) * 2 ^ (-149 : ℤ) = 2 * (2 ^ 128 - 2 ^ 103) := by
    rw [add_mul, places_inf, places_greatest]
    norm_num
  have scale : y * 2 ^ (-149 : ℤ) < 2 ^ 128 - 2 ^ 103 ↔ 2 * y < places 0x7F7FFFFF + places 0x7F800000 := by
    refine Iff.trans ?_ (mul_lt_mul_iff_left₀ unit)
    rw [mid]
    constructor <;> intro <;> linarith
  rw [scale]
  constructor
  · intro lt
    have le₁ := places_cast_le (show n ≤ 0x7F7FFFFF by omega)
    have le₂ := places_cast_le (show n + 1 ≤ 0x7F800000 by omega)
    refine lt_of_le_of_ne (h.up.trans (add_le_add le₁ le₂)) fun tie => ?_
    have top : n = 0x7F7FFFFF := by
      by_contra ne
      have lt₁ := places_cast_lt (show n < 0x7F7FFFFF by omega)
      linarith [h.up]
    have even := h.up_even (by rw [top]; exact tie)
    omega
  · intro lt
    by_contra! ge
    obtain ⟨k, rfl⟩ : ∃ k, n = k + 1 := ⟨n - 1, by omega⟩
    have le₁ := places_cast_le (show 0x7F7FFFFF ≤ k by omega)
    have le₂ := places_cast_le ge
    linarith [h.down k rfl]

/-- Nor is a value of either sign nearer. -/
theorem Nearest.le_and_even_signed {n : ℕ} {y : ℝ} (h : Nearest n y) (y0 : 0 ≤ y) (s t : Bool) (k : ℕ) :
    |places n - y| ≤ |signOf t * places k - signOf s * y|
      ∧ (|places n - y| = |signOf t * places k - signOf s * y| → signOf t * places k = signOf s * places n ∨ n % 2 = 0) := by
  by_cases same : t = s
  · subst same
    obtain ⟨le, even⟩ := h.le_and_even k
    rw [← mul_sub, abs_mul, abs_signOf, one_mul]
    exact ⟨le, fun tie => (even tie).imp_left fun e => by rw [e]⟩
  · obtain ⟨le, even⟩ := h.le_and_even 0
    have k0 : (0 : ℝ) ≤ places k := by positivity
    have far : |signOf t * places k - signOf s * y| = places k + y := by
      obtain rfl : t = !s := Bool.eq_not_of_ne same
      cases s
      · rw [abs_of_nonpos (by simp; linarith)]
        simp
        ring
      · rw [abs_of_nonneg (by simp; linarith)]
        simp
    have near : |(places 0 : ℝ) - y| = y := by simp [abs_of_nonneg y0]
    rw [near] at le even
    rw [far]
    refine ⟨by linarith, fun tie => ?_⟩
    have pk : (places k : ℝ) = 0 := by linarith
    exact (even (by linarith)).imp_left fun e => by rw [pk, ← e]; simp

/-- The word with the nearest magnitude, cut at the infinity, is the number rounded as IEEE 754 says. -/
theorem Nearest.roundsTo {n : ℕ} {y : ℝ} (h : Nearest n y) (y0 : 0 ≤ y) (s : Bool) :
    RoundsTo (withSign s (min n 0x7F800000)) (signOf s * (y * 2 ^ (-149 : ℤ))) := by
  have small : min n 0x7F800000 < 2 ^ 31 := by omega
  have unit : (0 : ℝ) < 2 ^ (-149 : ℤ) := by positivity
  have x0 : 0 ≤ y * 2 ^ (-149 : ℤ) := by positivity
  have finite_iff : isfinite (withSign s (min n 0x7F800000)) = true ↔ n < 0x7F800000 := by
    rw [isfinite_iff, fmag_withSign s small]
    omega
  have inf (ge : 2 ^ 128 - 2 ^ 103 ≤ y * 2 ^ (-149 : ℤ)) : min n 0x7F800000 = 0x7F800000 :=
    Nat.min_eq_right (not_lt.mp (mt h.lt_inf_iff.mp (not_lt.mpr ge)))
  have value (lt : n < 0x7F800000) :
      (fval (withSign s (min n 0x7F800000)) : ℝ) = signOf s * places n * 2 ^ (-149 : ℤ) := by
    rw [fval_eq_places, fsign_withSign s small, fmag_withSign s small, Nat.min_eq_left lt.le]
  have scale (v : ℝ) : |v * 2 ^ (-149 : ℤ) - signOf s * (y * 2 ^ (-149 : ℤ))| = |v - signOf s * y| * 2 ^ (-149 : ℤ) := by
    rw [← mul_assoc, ← sub_mul, abs_mul, abs_of_pos unit]
  have dist : |signOf s * places n - signOf s * y| = |places n - y| := by
    rw [← mul_sub, abs_mul, abs_signOf, one_mul]
  constructor
  · intro lt
    rw [abs_mul, abs_signOf, one_mul, abs_of_nonneg x0] at lt
    exact finite_iff.mpr (h.lt_inf_iff.mpr lt)
  · intro ge
    cases s with
    | false =>
      rw [inf (by simpa using ge)]
      rfl
    | true =>
      rw [signOf_true] at ge
      linarith
  · intro le
    cases s with
    | false =>
      rw [signOf_false] at le
      linarith
    | true =>
      rw [signOf_true] at le
      rw [inf (by linarith)]
      rfl
  · intro fin c _
    rw [value (finite_iff.mp fin), fval_eq_places c, scale, scale, dist]
    exact mul_le_mul_of_nonneg_right (h.le_and_even_signed y0 s _ _).1 unit.le
  · intro fin c _ tie
    have lt := finite_iff.mp fin
    rw [value lt, fval_eq_places c, scale, scale, dist] at tie
    refine ((h.le_and_even_signed y0 s _ _).2 (mul_right_cancel₀ unit.ne' tie)).imp (fun e => ?_) fun even => ?_
    · have same : (fval c : ℝ) = fval (withSign s (min n 0x7F800000)) := by
        rw [value lt, fval_eq_places c, e]
      exact_mod_cast same
    · rw [toNat_mod_two, fmag_withSign s small, Nat.min_eq_left lt.le, even]

theorem StandsFor.nonneg {m : ℕ} {z : ℝ} (h : StandsFor m z) : 0 ≤ z := by
  rcases h with rfl | ⟨_, big, lo, _⟩
  · positivity
  · have big' : (2 ^ 25 : ℝ) ≤ m := by exact_mod_cast big
    linarith

/-- `roundTo` rounds the number its significand stands for as IEEE 754 says. -/
theorem roundTo_roundsTo {m : ℕ} {z : ℝ} (h : StandsFor m z) (s : Bool) (e : ℤ) :
    RoundsTo (roundTo s m e) (signOf s * (z * 2 ^ e)) := by
  obtain ⟨n, hn, near⟩ := roundMag_nearest h e
  have places : z * 2 ^ (e + 149) * 2 ^ (-149 : ℤ) = z * 2 ^ e := by
    rw [mul_assoc, ← zpow_add₀ two_ne_zero, add_neg_cancel_right]
  rw [roundTo, hn, ← places]
  exact near.roundsTo (mul_nonneg h.nonneg (by positivity)) s

/-- The exact case: an integer `x` at the exponent `e`. -/
theorem roundTo_int_roundsTo (x e : ℤ) : RoundsTo (roundTo (decide (x < 0)) x.natAbs e) (x * 2 ^ e) := by
  have value : (x : ℝ) = signOf (decide (x < 0)) * x.natAbs := by
    rcases lt_or_ge x 0 with neg | nonneg
    · simp [neg, abs_of_neg neg]
    · simp [not_lt.mpr nonneg, abs_of_nonneg nonneg]
  rw [value, mul_assoc]
  exact roundTo_roundsTo (.inl rfl) _ e

/-! ## The operations round their exact results (R13) -/

theorem fval_eq_smant (a : F32) : (fval a : ℝ) = smant a * 2 ^ expo a := by simp [fval]

theorem mant_eq_zero_iff {a : F32} : mant a = 0 ↔ fmag a = 0 := by
  have places_pos : places (fmag a) = 0 ↔ fmag a = 0 :=
    places_strictMono.injective.eq_iff' places_zero
  rw [← places_pos, ← mant_mul_eq_places]
  simp

theorem mant_lt (a : F32) : mant a < 2 ^ 24 := by
  have := Nat.mod_lt a.toNat (Nat.two_pow_pos 23)
  have hf : ffrac a < 2 ^ 23 := by simpa [ffrac, field] using this
  unfold mant
  split <;> omega

theorem zero_roundsTo (s : Bool) : RoundsTo (withSign s 0) 0 := by
  simpa [roundTo, roundMag] using roundTo_roundsTo (m := 0) (.inl rfl) s 0

/-- The exact sum is the integer that `addAs` rounds. -/
theorem exactSum_spec (a b : F32) :
    (exactSum a b : ℝ) * 2 ^ min (expo a) (expo b) = fval a + fval b := by
  have shift {e f : ℤ} (h : f ≤ e) : (2 : ℝ) ^ (e - f).toNat * 2 ^ f = 2 ^ e := by
    rw [← zpow_natCast, Int.toNat_of_nonneg (by omega), ← zpow_add₀ two_ne_zero, sub_add_cancel]
  simp only [exactSum]
  push_cast
  rw [add_mul, mul_assoc, mul_assoc, shift (min_le_left _ _), shift (min_le_right _ _), fval_eq_smant, fval_eq_smant]

section finite

variable {a b : F32} (ha : isfinite a = true) (hb : isfinite b = true)
include ha hb

theorem addAs_finite (op : ℕ) :
    addAs op a b = if exactSum a b = 0 then withSign (fsign a && fsign b) 0
      else roundTo (decide (exactSum a b < 0)) (exactSum a b).natAbs (min (expo a) (expo b)) := by
  simp [addAs, isnan_of_isfinite ha, isnan_of_isfinite hb, isinf_of_isfinite ha, isinf_of_isfinite hb]

theorem addAs_roundsTo (op : ℕ) : RoundsTo (addAs op a b) ((fval a + fval b : ℚ) : ℝ) := by
  rw [addAs_finite ha hb]
  push_cast
  rw [← exactSum_spec]
  split
  · next zero =>
    rw [zero, Int.cast_zero, zero_mul]
    exact zero_roundsTo _
  · exact roundTo_int_roundsTo _ _

theorem fadd_roundsTo : RoundsTo (fadd a b) ((fval a + fval b : ℚ) : ℝ) := addAs_roundsTo ha hb 0

theorem fsub_roundsTo : RoundsTo (fsub a b) ((fval a - fval b : ℚ) : ℝ) := by
  have h := addAs_roundsTo ha ((isfinite_fneg b).trans hb) 1
  rwa [fval_fneg, ← sub_eq_add_neg] at h

/-- The zero of an exact cancellation (R13). -/
theorem fadd_zero (h : fval a + fval b = 0) :
    fadd a b = if fsign a = true ∧ fsign b = true then 0x80000000#32 else f0 := by
  have sum : (exactSum a b : ℝ) * 2 ^ min (expo a) (expo b) = 0 := by
    rw [exactSum_spec]
    exact_mod_cast h
  have zero : exactSum a b = 0 := by
    exact_mod_cast (mul_eq_zero.mp sum).resolve_right (by positivity)
  rw [fadd, addAs_finite ha hb, if_pos zero]
  cases fsign a <;> cases fsign b <;> rfl

theorem fmul_finite : fmul a b = roundTo (fsign a != fsign b) (mant a * mant b) (expo a + expo b) := by
  simp [fmul, isnan_of_isfinite ha, isnan_of_isfinite hb, isinf_of_isfinite ha, isinf_of_isfinite hb]

theorem fmul_roundsTo : RoundsTo (fmul a b) ((fval a * fval b : ℚ) : ℝ) := by
  have value : ((fval a * fval b : ℚ) : ℝ)
      = signOf (fsign a != fsign b) * ((mant a * mant b : ℕ) * 2 ^ (expo a + expo b)) := by
    push_cast
    rw [fval_eq_mant, fval_eq_mant, signOf_bne, zpow_add₀ two_ne_zero]
    ring
  rw [fmul_finite ha hb, value]
  exact roundTo_roundsTo (.inl rfl) _ _

end finite

/-- A quotient with its sticky bit stands for twice the exact quotient (`fdiv`). -/
theorem standsFor_quotient {n d : ℕ} (hd : 0 < d) (hn : n = 0 ∨ 2 ^ 25 * d ≤ n) :
    StandsFor (2 * (n / d) + (if n % d = 0 then 0 else 1)) (2 * (n / d : ℝ)) := by
  have d0 : (0 : ℝ) < d := by exact_mod_cast hd
  have split : (n : ℝ) = d * (n / d : ℕ) + (n % d : ℕ) := by exact_mod_cast (Nat.div_add_mod n d).symm
  have quotient : (n / d : ℝ) = (n / d : ℕ) + (n % d : ℕ) / d := by
    rw [split]
    field_simp
  by_cases exact : n % d = 0
  · left
    rw [if_pos exact, quotient, exact]
    simp
  · right
    have big : 2 ^ 25 ≤ n / d := (Nat.le_div_iff_mul_le hd).mpr (hn.resolve_left fun h => exact (by simp [h]))
    have rem_pos : (0 : ℝ) < (n % d : ℕ) / d := by
      have : 0 < n % d := Nat.pos_of_ne_zero exact
      positivity
    have rem_lt : ((n % d : ℕ) : ℝ) / d < 1 := (div_lt_one d0).mpr (by exact_mod_cast Nat.mod_lt n hd)
    rw [if_neg exact, quotient]
    push_cast
    exact ⟨by omega, by omega, by linarith, by linarith⟩

section fdiv

variable {a b : F32} (ha : isfinite a = true) (hb : isfinite b = true)
include ha hb

theorem fdiv_finite (b0 : fmag b ≠ 0) :
    fdiv a b = roundTo (fsign a != fsign b)
      (2 * (mant a * 2 ^ 50 / mant b) + (if mant a * 2 ^ 50 % mant b = 0 then 0 else 1)) (expo a - expo b - 51) := by
  simp [fdiv, isnan_of_isfinite ha, isnan_of_isfinite hb, isinf_of_isfinite ha, isinf_of_isfinite hb, b0]

theorem fdiv_roundsTo (h : fval b ≠ 0) : RoundsTo (fdiv a b) ((fval a / fval b : ℚ) : ℝ) := by
  have b0 : fmag b ≠ 0 := mt fval_eq_zero_iff.mpr h
  have mb : 0 < mant b := Nat.pos_of_ne_zero (mt mant_eq_zero_iff.mp b0)
  have mb' : (mant b : ℝ) ≠ 0 := by positivity
  have wide : mant a * 2 ^ 50 = 0 ∨ 2 ^ 25 * mant b ≤ mant a * 2 ^ 50 := by
    have := mant_lt b
    omega
  have value : ((fval a / fval b : ℚ) : ℝ)
      = signOf (fsign a != fsign b)
        * ((2 * ((mant a * 2 ^ 50 : ℕ) / mant b : ℝ)) * 2 ^ (expo a - expo b - 51)) := by
    push_cast
    have signs : signOf (fsign a) / signOf (fsign b) = signOf (fsign a != fsign b) := by
      rw [signOf_bne, div_eq_iff (signOf_ne_zero _), mul_assoc, signOf_mul_self, mul_one]
    rw [fval_eq_mant, fval_eq_mant, ← signs, zpow_sub₀ two_ne_zero, zpow_sub₀ two_ne_zero]
    field_simp
    norm_num
  rw [fdiv_finite ha hb b0, value]
  exact roundTo_roundsTo (standsFor_quotient mb wide) _ _

end fdiv

/-- The bit-by-bit root is the integer square root. -/
theorem isqrtFrom_spec (k n r : ℕ) (lo : r * r ≤ n) (hi : n < (r + 2 ^ k) * (r + 2 ^ k)) :
    isqrtFrom k n r * isqrtFrom k n r ≤ n ∧ n < (isqrtFrom k n r + 1) * (isqrtFrom k n r + 1) := by
  induction k generalizing r with
  | zero => exact ⟨lo, hi⟩
  | succ k ih =>
    rw [isqrtFrom]
    split
    · next fits => exact ih _ fits (by rwa [Nat.add_assoc, ← Nat.two_mul, ← Nat.pow_succ'])
    · next not => exact ih _ lo (not_le.mp not)

/-- A root with its sticky bit stands for twice the exact root (`fsqrt`). -/
theorem standsFor_root {n r : ℕ} (lo : r * r ≤ n) (hi : n < (r + 1) * (r + 1)) (big : 2 ^ 25 ≤ r) :
    StandsFor (2 * r + (if r * r = n then 0 else 1)) (2 * Real.sqrt n) := by
  by_cases exact : r * r = n
  · left
    rw [if_pos exact, ← exact]
    push_cast
    rw [Real.sqrt_mul_self (by positivity), add_zero]
  · right
    have above : (r : ℝ) < Real.sqrt n := Real.lt_sqrt_of_sq_lt (by
      rw [sq]
      exact_mod_cast lt_of_le_of_ne lo exact)
    have below : Real.sqrt n < r + 1 := (Real.sqrt_lt' (by positivity)).mpr (by
      rw [sq]
      exact_mod_cast hi)
    rw [if_neg exact]
    push_cast
    exact ⟨by omega, by omega, by linarith, by linarith⟩

/-- The significand `fsqrt` takes the root of: scaled to an even exponent. -/
def rootArg (a : F32) : ℕ := mant a * 2 ^ (54 + (expo a % 2).toNat)

/-- Half the even exponent. -/
def rootExpo (a : F32) : ℤ := (expo a - (expo a % 2).toNat - 54) / 2

theorem mant_mul_eq_rootArg (a : F32) : (mant a : ℝ) * 2 ^ expo a = rootArg a * (2 ^ rootExpo a) ^ 2 := by
  have he : expo a = (54 + (expo a % 2).toNat : ℕ) + rootExpo a * 2 := by
    unfold rootExpo
    omega
  unfold rootArg
  push_cast
  rw [← zpow_natCast (2 ^ rootExpo a), ← zpow_mul, mul_assoc, ← zpow_natCast 2, ← zpow_add₀ two_ne_zero]
  congr 2

theorem fsqrt_pos {a : F32} (ha : isfinite a = true) (a0 : fmag a ≠ 0) (hs : fsign a = false) :
    fsqrt a = roundTo false
      (2 * isqrtFrom 40 (rootArg a) 0 + (if isqrtFrom 40 (rootArg a) 0 * isqrtFrom 40 (rootArg a) 0 = rootArg a then 0 else 1))
      (rootExpo a - 1) := by
  simp only [fsqrt, isnan_of_isfinite ha, isinf_of_isfinite ha, a0, hs, Bool.false_eq_true, if_false]
  rfl

/-- The root taken has at least 26 and at most 40 bits. -/
theorem rootArg_bounds {a : F32} (a0 : fmag a ≠ 0) : 2 ^ 54 ≤ rootArg a ∧ rootArg a < 2 ^ 40 * 2 ^ 40 := by
  have pos : 0 < mant a := Nat.pos_of_ne_zero (mt mant_eq_zero_iff.mp a0)
  have lt := mant_lt a
  unfold rootArg
  rcases (show (expo a % 2).toNat = 0 ∨ (expo a % 2).toNat = 1 by omega) with h | h <;> rw [h] <;> omega

theorem fsqrt_zero {a : F32} (h : fmag a = 0) : fsqrt a = a := by
  simp [fsqrt, isnan, h]

theorem fsqrt_roundsTo {a : F32} (ha : isfinite a = true) (h : 0 ≤ fval a) :
    RoundsTo (fsqrt a) (Real.sqrt (fval a : ℝ)) := by
  by_cases a0 : fmag a = 0
  · have word : a = withSign (fsign a) 0 := eq_of_sign_mag (by simp [fsign_withSign]) (by simp [fmag_withSign, a0])
    rw [fsqrt_zero a0, fval_eq_zero_iff.mpr a0, Rat.cast_zero, Real.sqrt_zero, word]
    exact zero_roundsTo _
  · have hs : fsign a = false := by
      by_contra neg
      have pos : 0 < fmag a := Nat.pos_of_ne_zero a0
      exact absurd h (not_le.mpr (fval_neg_iff.mpr ⟨by simpa using neg, pos⟩))
    obtain ⟨low, high⟩ := rootArg_bounds a0
    obtain ⟨lo, hi⟩ := isqrtFrom_spec 40 (rootArg a) 0 (Nat.zero_le _) (by simpa using high)
    have big : 2 ^ 25 ≤ isqrtFrom 40 (rootArg a) 0 := by
      by_contra! lt
      have := Nat.mul_self_le_mul_self (show isqrtFrom 40 (rootArg a) 0 + 1 ≤ 2 ^ 25 by omega)
      omega
    have value : Real.sqrt (fval a : ℝ) = signOf false * (2 * Real.sqrt (rootArg a) * 2 ^ (rootExpo a - 1)) := by
      rw [fval_eq_mant, hs, mant_mul_eq_rootArg, signOf_false, one_mul, Real.sqrt_mul (by positivity),
        Real.sqrt_sq (by positivity), zpow_sub_one₀ two_ne_zero]
      ring
    rw [fsqrt_pos ha a0 hs, value]
    exact roundTo_roundsTo (standsFor_root lo hi big) _ _

theorem i2f_roundsTo (n : ℤ) : RoundsTo (i2f n) (n : ℝ) := by
  have h := roundTo_int_roundsTo n 0
  rwa [zpow_zero, mul_one] at h

/-! ## The floor and the special cases (R13) -/

theorem floorI_eq_floor {a : F32} (ha : isfinite a = true) : floorI a = ⌊fval a⌋ := by
  rw [floorI, if_pos ha, fval]
  split
  · next nonneg =>
    have whole : (smant a : ℚ) * 2 ^ expo a = ((smant a * 2 ^ (expo a).toNat : ℤ) : ℚ) := by
      push_cast
      rw [← zpow_natCast, Int.toNat_of_nonneg nonneg]
    rw [whole, Int.floor_intCast]
  · next neg =>
    have quotient : (smant a : ℚ) * 2 ^ expo a = smant a / ((2 ^ (-expo a).toNat : ℕ) : ℚ) := by
      push_cast
      rw [← zpow_natCast, Int.toNat_of_nonneg (by omega), zpow_neg, div_inv_eq_mul]
    rw [quotient, Rat.floor_intCast_div_natCast]
    norm_cast

theorem roundMag_le (m : ℕ) (e : ℤ) : roundMag m e ≤ 0x7F800000 := by
  unfold roundMag
  split
  · omega
  · exact min_le_right _ _

/-- A rounding delivers no NaN. -/
@[simp] theorem isnan_roundTo (s : Bool) (m : ℕ) (e : ℤ) : isnan (roundTo s m e) = false :=
  isnan_withSign_of_le s (roundMag_le m e)

@[simp] theorem fsign_roundTo (s : Bool) (m : ℕ) (e : ℤ) : fsign (roundTo s m e) = s :=
  fsign_withSign s (lt_of_le_of_lt (roundMag_le m e) (by norm_num))

@[simp] theorem isnan_withSign_zero (s : Bool) : isnan (withSign s 0) = false := isnan_withSign_of_le s (by norm_num)
@[simp] theorem fsign_withSign_zero (s : Bool) : fsign (withSign s 0) = s := fsign_withSign s (by norm_num)
@[simp] theorem fmag_withSign_zero (s : Bool) : fmag (withSign s 0) = 0 := fmag_withSign s (by norm_num)
@[simp] theorem isnan_finf (s : Bool) : isnan (finf s) = false := isnan_withSign_of_le s le_rfl
@[simp] theorem fsign_finf (s : Bool) : fsign (finf s) = s := fsign_withSign s (by norm_num)
@[simp] theorem isinf_finf (s : Bool) : isinf (finf s) = true := by
  rw [isinf, finf, fmag_withSign s (by norm_num), decide_eq_true rfl]

/-- `feq` with zero, as a test of the magnitude. -/
theorem feq_f0_eq (a : F32) : feq a f0 = decide (fmag a = 0) := by
  rw [Bool.eq_iff_iff, feq_f0_iff, decide_eq_true_iff]

theorem flt_f0_eq {a : F32} (h : isnan a = false) : flt a f0 = (fsign a && !decide (fmag a = 0)) := by
  rw [Bool.eq_iff_iff, flt_f0_iff]
  simp [h]

/-! What an operation answers for each class of its operands. -/

section

variable {a b : F32}

theorem addAs_nan (op : ℕ) (h : (isnan a || isnan b) = true) : addAs op a b = qnan op a b := by simp [addAs, h]

theorem addAs_inf_left (op : ℕ) (ha : isinf a = true) (hb : isnan b = false) :
    addAs op a b = if isinf b && fsign a != fsign b then qnan op a b else a := by
  simp [addAs, isnan_of_isinf ha, ha, hb]

theorem addAs_inf_right (op : ℕ) (ha : isfinite a = true) (hb : isinf b = true) : addAs op a b = b := by
  simp [addAs, isnan_of_isfinite ha, isinf_of_isfinite ha, isnan_of_isinf hb, hb]

theorem fmul_nan (h : (isnan a || isnan b) = true) : fmul a b = qnan 2 a b := by simp [fmul, h]

theorem fmul_inf (ha : isnan a = false) (hb : isnan b = false) (h : (isinf a || isinf b) = true) :
    fmul a b = if fmag a = 0 ∨ fmag b = 0 then qnan 2 a b else finf (fsign a != fsign b) := by
  simp [fmul, ha, hb, h]

theorem fdiv_nan (h : (isnan a || isnan b) = true) : fdiv a b = qnan 3 a b := by simp [fdiv, h]

theorem fdiv_inf_left (ha : isinf a = true) (hb : isnan b = false) :
    fdiv a b = if isinf b then qnan 3 a b else finf (fsign a != fsign b) := by
  simp [fdiv, isnan_of_isinf ha, ha, hb]

theorem fdiv_inf_right (ha : isfinite a = true) (hb : isinf b = true) :
    fdiv a b = withSign (fsign a != fsign b) 0 := by
  simp [fdiv, isnan_of_isfinite ha, isinf_of_isfinite ha, isnan_of_isinf hb, hb]

theorem fdiv_zero (ha : isfinite a = true) (hb : fmag b = 0) :
    fdiv a b = if fmag a = 0 then qnan 3 a b else finf (fsign a != fsign b) := by
  have fb : isfinite b = true := isfinite_iff.mpr (by omega)
  simp [fdiv, isnan_of_isfinite ha, isinf_of_isfinite ha, isnan_of_isfinite fb, isinf_of_isfinite fb, hb]

theorem fsqrt_nan (h : isnan a = true) : fsqrt a = qnan 4 a a := by simp [fsqrt, h]

theorem fsqrt_neg (a0 : fmag a ≠ 0) (h : fsign a = true) : fsqrt a = qnan 4 a a := by simp [fsqrt, a0, h]

theorem fsqrt_inf (ha : isinf a = true) (h : fsign a = false) : fsqrt a = a := by
  have a0 : fmag a ≠ 0 := fun zero => by simp [isinf, zero] at ha
  simp [fsqrt, isnan_of_isinf ha, a0, h, ha]

end

/-- An infinity is no zero. -/
theorem fmag_ne_zero_of_isinf {a : F32} (h : isinf a = true) : fmag a ≠ 0 := fun zero => by simp [isinf, zero] at h

/-- Every word is a NaN, an infinity or a finite value. -/
theorem nan_or_inf_or_finite (a : F32) : isnan a = true ∨ isinf a = true ∨ isfinite a = true := by
  cases hn : isnan a with
  | true => exact .inl rfl
  | false =>
    cases hi : isinf a with
    | true => exact .inr (.inl rfl)
    | false => exact .inr (.inr (isfinite_of_not hn hi))

/-- Sums: a NaN from a NaN or from infinities of opposite signs. -/
theorem isnan_addAs (op : ℕ) (a b : F32) :
    isnan (addAs op a b) = (isnan a || isnan b || (isinf a && isinf b && fsign a != fsign b)) := by
  by_cases nan : (isnan a || isnan b) = true
  · simp [addAs_nan op nan, nan]
  · obtain ⟨na, nb⟩ : isnan a = false ∧ isnan b = false := by simpa using nan
    cases ia : isinf a with
    | true =>
      rw [addAs_inf_left op ia nb]
      split <;> simp_all
    | false =>
      have fa := isfinite_of_not na ia
      cases ib : isinf b with
      | true => simp [addAs_inf_right op fa ib, na, nb]
      | false =>
        rw [addAs_finite fa (isfinite_of_not nb ib)]
        split <;> simp [na, nb]

/-- Products: a NaN from a NaN or from an infinity times a zero. -/
theorem isnan_fmul (a b : F32) :
    isnan (fmul a b) = (isnan a || isnan b || (isinf a && feq b f0) || (isinf b && feq a f0)) := by
  rw [feq_f0_eq, feq_f0_eq]
  by_cases nan : (isnan a || isnan b) = true
  · simp [fmul_nan nan, nan]
  · obtain ⟨na, nb⟩ : isnan a = false ∧ isnan b = false := by simpa using nan
    by_cases inf : (isinf a || isinf b) = true
    · rw [fmul_inf na nb inf]
      rcases Bool.or_eq_true_iff.mp inf with ia | ib
      · have a0 := fmag_ne_zero_of_isinf ia
        split <;> simp_all
      · have b0 := fmag_ne_zero_of_isinf ib
        split <;> simp_all
    · obtain ⟨ia, ib⟩ : isinf a = false ∧ isinf b = false := by simpa using inf
      simp [fmul_finite (isfinite_of_not na ia) (isfinite_of_not nb ib), na, nb, ia, ib]

/-- Quotients: a NaN from a NaN, from two infinities or from two zeros. -/
theorem isnan_fdiv (a b : F32) :
    isnan (fdiv a b) = (isnan a || isnan b || (isinf a && isinf b) || (feq a f0 && feq b f0)) := by
  rw [feq_f0_eq, feq_f0_eq]
  by_cases nan : (isnan a || isnan b) = true
  · simp [fdiv_nan nan, nan]
  · obtain ⟨na, nb⟩ : isnan a = false ∧ isnan b = false := by simpa using nan
    cases ia : isinf a with
    | true =>
      have a0 := fmag_ne_zero_of_isinf ia
      rw [fdiv_inf_left ia nb]
      split <;> simp_all
    | false =>
      have fa := isfinite_of_not na ia
      cases ib : isinf b with
      | true => simp [fdiv_inf_right fa ib, na, nb, fmag_ne_zero_of_isinf ib]
      | false =>
        by_cases b0 : fmag b = 0
        · rw [fdiv_zero fa b0]
          split <;> simp_all
        · simp [fdiv_finite fa (isfinite_of_not nb ib) b0, na, nb, b0]

/-- Roots: a NaN from a NaN or below zero. -/
theorem isnan_fsqrt (a : F32) : isnan (fsqrt a) = (isnan a || flt a f0) := by
  rcases nan_or_inf_or_finite a with na | ia | fa
  · simp [fsqrt_nan na, na]
  · have a0 := fmag_ne_zero_of_isinf ia
    rw [flt_f0_eq (isnan_of_isinf ia)]
    cases hs : fsign a with
    | true => simp [fsqrt_neg a0 hs, a0]
    | false => simp [fsqrt_inf ia hs]
  · rw [flt_f0_eq (isnan_of_isfinite fa)]
    by_cases a0 : fmag a = 0
    · simp [fsqrt_zero a0, a0]
    · cases hs : fsign a with
      | true => simp [fsqrt_neg a0 hs, a0]
      | false => simp [fsqrt_pos fa a0 hs, isnan_of_isfinite fa]

/-- The sign of a product. -/
theorem fsign_fmul {a b : F32} (h : isnan (fmul a b) = false) : fsign (fmul a b) = (fsign a != fsign b) := by
  by_cases nan : (isnan a || isnan b) = true
  · simp [fmul_nan nan] at h
  · obtain ⟨na, nb⟩ : isnan a = false ∧ isnan b = false := by simpa using nan
    by_cases inf : (isinf a || isinf b) = true
    · rw [fmul_inf na nb inf] at h ⊢
      split at h
      · simp at h
      · simp_all
    · obtain ⟨ia, ib⟩ : isinf a = false ∧ isinf b = false := by simpa using inf
      rw [fmul_finite (isfinite_of_not na ia) (isfinite_of_not nb ib), fsign_roundTo]

/-- The sign of a quotient. -/
theorem fsign_fdiv {a b : F32} (h : isnan (fdiv a b) = false) : fsign (fdiv a b) = (fsign a != fsign b) := by
  by_cases nan : (isnan a || isnan b) = true
  · simp [fdiv_nan nan] at h
  · obtain ⟨na, nb⟩ : isnan a = false ∧ isnan b = false := by simpa using nan
    cases ia : isinf a with
    | true =>
      rw [fdiv_inf_left ia nb] at h ⊢
      split at h <;> simp_all
    | false =>
      have fa := isfinite_of_not na ia
      cases ib : isinf b with
      | true => rw [fdiv_inf_right fa ib, fsign_withSign_zero]
      | false =>
        by_cases b0 : fmag b = 0
        · rw [fdiv_zero fa b0] at h ⊢
          split at h <;> simp_all
        · rw [fdiv_finite fa (isfinite_of_not nb ib) b0, fsign_roundTo]

/-- A product of an infinity that is no NaN is an infinity, in either order. -/
theorem isinf_fmul {a b : F32} (ha : isinf a = true) (h : isnan (fmul a b) = false) :
    isinf (fmul a b) = true ∧ isinf (fmul b a) = true := by
  have na := isnan_of_isinf ha
  by_cases nb : isnan b = true
  · simp [fmul_nan (a := a) (b := b) (by simp [nb])] at h
  · rw [Bool.not_eq_true] at nb
    rw [fmul_inf na nb (by simp [ha])] at h ⊢
    rw [fmul_inf nb na (by simp [ha])]
    split at h
    · simp at h
    · next zero => simp [zero, mt Or.symm zero]

/-! ## The obligations on the arithmetic -/

/-- Settles O19: the clauses of `RoundsTo` for the exact sum and product, read in `ℚ`. -/
theorem sumAndProductRoundToNearest : Obligations.SumAndProductRoundToNearest := by
  intro a b ha hb
  have sum := fadd_roundsTo ha hb
  have product := fmul_roundsTo ha hb
  refine ⟨fun fin c hc => ⟨?_, fun tie => ?_⟩, fun fin c hc => ⟨?_, fun tie => ?_⟩⟩
  · exact_mod_cast sum.nearest fin c hc
  · exact sum.even fin c hc (by exact_mod_cast tie)
  · exact_mod_cast product.nearest fin c hc
  · exact product.even fin c hc (by exact_mod_cast tie)

/-- Settles O20: one clause per lemma above. -/
theorem arithmeticRounds : Obligations.ArithmeticRounds := by
  refine ⟨fun a b ha hb => ?_, i2f_roundsTo, fun a b => ?_, fun a b => compare_nan, fun a b => fsign_fmul,
    fun a b => fsign_fdiv, fun a b => ?_⟩
  · have na := isnan_of_isfinite ha
    have nb := isnan_of_isfinite hb
    exact ⟨fadd_roundsTo ha hb, fsub_roundsTo ha hb, fmul_roundsTo ha hb, fdiv_roundsTo ha hb, fsqrt_roundsTo ha,
      floorI_eq_floor ha, (flt_iff na nb).trans fval_lt_fval.symm, (fle_iff na nb).trans fval_le_fval.symm,
      (feq_iff na nb).trans fval_eq_fval.symm, fadd_zero ha hb⟩
  · refine ⟨isnan_addAs 0 a b, ?_, isnan_fmul a b, isnan_fdiv a b, isnan_fsqrt a⟩
    rw [fsub, isnan_addAs, isnan_fneg, isinf_fneg, fsign_fneg]
    cases fsign a <;> cases fsign b <;> rfl
  · refine ⟨fun ia fb => ?_, isinf_fmul, fun fa a0 b0 => ?_, fsqrt_inf⟩
    · have nb := isnan_of_isfinite fb
      have ib := isinf_of_isfinite fb
      refine ⟨?_, addAs_inf_right 0 fb ia, ?_, ?_⟩
      · simp [fadd, addAs_inf_left 0 ia nb, ib]
      · simp [fdiv_inf_left ia nb, ib]
      · rw [fdiv_inf_right fb ia, feq_f0_iff, fmag_withSign_zero]
    · have a0' : fmag a ≠ 0 := by simpa [feq_f0_eq] using a0
      rw [fdiv_zero fa (feq_f0_iff.mp b0), if_neg a0', isinf_finf]

/-! ## Saturation (R17) -/

/-- A number with its key within two finite ones is finite. -/
theorem isfinite_of_key {a : F32} (lo : -0x7F800000 < fkey a) (hi : fkey a < 0x7F800000) : isfinite a = true := by
  rw [isfinite_iff]
  cases hs : fsign a <;> simp [fkey, hs] at lo hi <;> omega

theorem sat_of_nan {v : F32} (h : isnan v = true) : sat v = f0 := by simp [sat, h]

theorem sat_of_number {v : F32} (h : isnan v = false) : sat v = clampf v 0xC7800000#32 0x47800000#32 := by
  simp [sat, h, Config.sat, fneg]

/-- A number between ordered bounds is its own clamp. -/
theorem clampf_within {v lo hi : F32} (above : fle lo v = true) (below : fle v hi = true) : clampf v lo hi = v := by
  obtain ⟨nlo, nv⟩ := isnan_of_fle above
  obtain ⟨-, nhi⟩ := isnan_of_fle below
  rw [Laws.fle_eq_not_flt nlo nv, Bool.not_eq_true'] at above
  rw [Laws.fle_eq_not_flt nv nhi, Bool.not_eq_true'] at below
  simp [clampf, fmax, fmin, above, below]

theorem flt_asymm {a b : F32} (h : flt a b = true) : flt b a = false := by
  obtain ⟨na, nb⟩ := isnan_of_flt h
  have lt := (flt_iff na nb).mp h
  simp [flt, lt.le]

theorem clampf_above {v lo hi : F32} (bounds : fle lo hi = true) (h : flt hi v = true) : clampf v lo hi = hi := by
  obtain ⟨nhi, nv⟩ := isnan_of_flt h
  obtain ⟨nlo, -⟩ := isnan_of_fle bounds
  have below : fkey lo ≤ fkey v := ((fle_iff nlo nhi).mp bounds).trans ((flt_iff nhi nv).mp h).le
  have kept : flt v lo = false := by simp [flt, below]
  simp [clampf, fmax, fmin, kept, h]

theorem clampf_below {v lo hi : F32} (bounds : fle lo hi = true) (h : flt v lo = true) : clampf v lo hi = lo := by
  obtain ⟨nlo, nhi⟩ := isnan_of_fle bounds
  rw [Laws.fle_eq_not_flt nlo nhi, Bool.not_eq_true'] at bounds
  simp [clampf, fmax, fmin, bounds, h]

/-- `sat` answers a number within the bounds, whatever the word is. -/
theorem sat_bounds (v : F32) : fle 0xC7800000#32 (sat v) = true ∧ fle (sat v) 0x47800000#32 = true := by
  cases h : isnan v with
  | true =>
    rw [sat_of_nan h]
    decide
  | false =>
    rw [sat_of_number h]
    exact (Laws.clampf_bounds h (by decide)).2

theorem isfinite_sat (v : F32) : isfinite (sat v) = true := by
  obtain ⟨lo, hi⟩ := sat_bounds v
  obtain ⟨nlo, n⟩ := isnan_of_fle lo
  obtain ⟨-, nhi⟩ := isnan_of_fle hi
  have klo : -0x47800000 ≤ fkey (sat v) := (fle_iff nlo n).mp lo
  have khi : fkey (sat v) ≤ 0x47800000 := (fle_iff n nhi).mp hi
  exact isfinite_of_key (by omega) (by omega)

/-- The value of a literal, by its significand and exponent. -/
theorem fval_literals :
    fval f0 = 0 ∧ fval fQuarter = 1 / 4 ∧ fval fHalf = 1 / 2 ∧ fval f1 = 1 ∧ fval f2 = 2 ∧ fval f4 = 4 ∧ fval f12h = 25 / 2
      ∧ fval f17h = 35 / 2 ∧ fval f44h = 89 / 2 ∧ fval f64 = 64 ∧ fval f72 = 72 := by
  decide +kernel

/-- Settles O22: `sat` is a clamp between finite bounds. -/
theorem saturationBounds : Obligations.SaturationBounds := by
  obtain ⟨z, quarter, half, one, two, four, l12, l17, l44, l64, l72⟩ := fval_literals
  refine ⟨fun a b v lo hi => ⟨rfl, rfl, rfl, rfl, rfl⟩, z, quarter, half, one, two, four, l12, l17, l44, l64, l72, rfl,
    fun v => ⟨isfinite_sat v, (sat_bounds v).1, (sat_bounds v).2, sat_of_nan, fun above below => ?_, fun h => ?_, fun h => ?_⟩⟩
  · rw [sat_of_number (isnan_of_fle above).2, clampf_within above below]
  · rw [sat_of_number (isnan_of_flt h).2, clampf_above (by decide) h]
  · rw [sat_of_number (isnan_of_flt h).1, clampf_below (by decide) h]

/-! ## `arg_t` (R16) -/

/-- The angles R16 allows. -/
def InTurn (v : F32) : Prop := fle 0xBF000000#32 v = true ∧ fle v 0x3F000000#32 = true

theorem InTurn.fneg {v : F32} (h : InTurn v) : InTurn (fneg v) := by
  obtain ⟨lo, hi⟩ := h
  obtain ⟨nlo, nv⟩ := isnan_of_fle lo
  obtain ⟨-, nhi⟩ := isnan_of_fle hi
  have klo : -0x3F000000 ≤ fkey v := (fle_iff nlo nv).mp lo
  have khi : fkey v ≤ 0x3F000000 := (fle_iff nv nhi).mp hi
  have nv' : isnan (Machine.fneg v) = false := by simpa using nv
  refine ⟨(fle_iff nlo nv').mpr ?_, (fle_iff nv' nhi).mpr ?_⟩ <;> rw [fkey_fneg]
  · exact neg_le_neg khi
  · exact neg_le.mp klo

theorem inTurn_f0 : InTurn f0 := ⟨by decide, by decide⟩

theorem legalTurn_inTurn (v : F32) : InTurn (legalTurn v) := by
  unfold legalTurn
  split
  · next h => exact Bool.and_eq_true_iff.mp h
  · exact inTurn_f0

theorem argUpper_inTurn (z : Cplx) : InTurn (argUpper z) := by
  unfold argUpper
  split_ifs
  · exact ⟨by decide, by decide⟩
  · exact ⟨by decide, by decide⟩
  · exact legalTurn_inTurn _

theorem argT_inTurn (z : Cplx) : InTurn (argT z) := by
  unfold argT
  split_ifs
  · exact inTurn_f0
  · exact inTurn_f0
  · exact ⟨by decide, by decide⟩
  · exact (argUpper_inTurn _).fneg
  · exact argUpper_inTurn _

@[simp] theorem conj_conj (z : Cplx) : conj (conj z) = z := by simp [conj]

/-- Equality with zero does not see the sign. -/
@[simp] theorem feq_fneg_f0 (a : F32) : feq (fneg a) f0 = feq a f0 := by simp [feq_f0_eq]

theorem feq_refl {a : F32} (h : isnan a = false) : feq a a = true := (feq_iff h h).mpr rfl

/-- Off the real axis, `arg_t` is `argUpper` above it and its mirror image below; a NaN lies on no axis. -/
theorem argT_off_axis {z : Cplx} (h : feq z.im f0 = false ∨ isnan z.re = true) :
    argT z = if fsign z.im then fneg (argUpper (conj z)) else argUpper z := by
  rcases h with im | re
  · simp [argT, im]
  · simp [argT, (compare_nan (.inl re) : flt z.re f0 = false ∧ _), (compare_nan (.inr re) : flt f0 z.re = false ∧ _)]

/-- From zero on to the right, `arg_t` is zero on the real axis. -/
theorem argT_on_axis {z : Cplx} (im : feq z.im f0 = true) (number : isnan z.re = false) (right : flt z.re f0 = false) :
    argT z = f0 := by
  have le : fkey f0 ≤ fkey z.re := not_lt.mp (mt (flt_iff number isnan_f0).mpr (by simp [right]))
  rcases le.eq_or_lt with zero | pos
  · simp [argT, im, (feq_iff number isnan_f0).mpr zero.symm]
  · simp [argT, im, (flt_iff isnan_f0 number).mpr pos]

/-- Mirrored in the real axis, the argument changes its sign (R16). -/
theorem argT_conj (z : Cplx) (h : ¬ (feq z.im f0 = true ∧ flt z.re f0 = true)) :
    feq (argT (conj z)) (fneg (argT z)) = true := by
  have number (w : Cplx) : isnan (argUpper w) = false := (isnan_of_fle (argUpper_inTurn w).2).1
  have same_im : feq (conj z).im f0 = feq z.im f0 := feq_fneg_f0 z.im
  by_cases axis : feq z.im f0 = true ∧ isnan z.re = false
  · obtain ⟨im, re⟩ := axis
    have right : flt z.re f0 = false := by simpa [im] using h
    rw [argT_on_axis im re right, argT_on_axis (same_im.trans im) re right]
    decide
  · have off : feq z.im f0 = false ∨ isnan z.re = true := by
      rw [not_and_or, Bool.not_eq_true, Bool.not_eq_false] at axis
      exact axis
    rw [argT_off_axis off, argT_off_axis (z := conj z) (by rwa [same_im]), conj_conj,
      show fsign (conj z).im = !fsign z.im from fsign_fneg z.im]
    cases fsign z.im with
    | false => exact feq_refl (by simpa using number z)
    | true =>
      rw [if_neg (by decide), if_pos rfl, fneg_fneg]
      exact feq_refl (number (conj z))

section axes

variable {x : F32} (hx : flt f0 x = true)
include hx

theorem positive_compare :
    feq x f0 = false ∧ flt x f0 = false ∧ fsign x = false ∧ feq (fneg x) f0 = false ∧ flt (fneg x) f0 = true
      ∧ flt f0 (fneg x) = false := by
  obtain ⟨number, sign, nonzero⟩ := f0_flt_iff.mp hx
  have zero : feq x f0 = false := by simpa [feq_f0_eq] using nonzero
  have left : flt (fneg x) f0 = true := flt_f0_iff.mpr (by simp [number, sign, nonzero])
  exact ⟨zero, flt_asymm hx, sign, by rw [feq_fneg_f0, zero], left, flt_asymm left⟩

/-- The values R16 states on the axes and on the diagonal. -/
theorem argT_axes :
    argT ⟨x, f0⟩ = f0 ∧ argT ⟨f0, x⟩ = 0x3E800000#32 ∧ argT ⟨f0, fneg x⟩ = 0xBE800000#32
      ∧ argT ⟨fneg x, f0⟩ = 0xBF000000#32 ∧ argT ⟨x, x⟩ = 0x3E000000#32 := by
  obtain ⟨number, -, -⟩ := f0_flt_iff.mp hx
  obtain ⟨zero, right, sign, zero', left, right'⟩ := positive_compare hx
  have origin : feq f0 f0 = true := by decide
  have quarter : argUpper ⟨f0, x⟩ = fQuarter := by simp [argUpper, origin, hx]
  refine ⟨argT_on_axis origin number right, ?_, ?_, ?_, ?_⟩
  · rw [argT_off_axis (z := ⟨f0, x⟩) (.inl zero), if_neg (ne_true_of_eq_false sign), quarter]
    rfl
  · have mirror : conj ⟨f0, fneg x⟩ = ⟨f0, x⟩ := by simp [conj]
    rw [argT_off_axis (z := ⟨f0, fneg x⟩) (.inl zero'), if_pos (by simp [sign]), mirror, quarter]
    rfl
  · simp [argT, origin, zero', left, right']
  · rw [argT_off_axis (z := ⟨x, x⟩) (.inl zero)]
    simp [argUpper, sign, zero, feq_refl number, hx]

end axes

/-! ## `cis_t` (R16) -/

theorem isnan_legalUnit (v : F32) : isnan (legalUnit v) = false := by
  unfold legalUnit
  split
  · next h => simpa using (isnan_of_fle h).1
  · rfl

theorem ceq_refl {z : Cplx} (re : isnan z.re = false) (im : isnan z.im = false) : ceq z z = true := by
  simp [ceq, feq_refl re, feq_refl im]

theorem isnan_cisPos (a : F32) : isnan (cisPos a).re = false ∧ isnan (cisPos a).im = false := by
  unfold cisPos
  split
  · decide
  · exact ⟨isnan_legalUnit _, isnan_legalUnit _⟩

@[simp] theorem fabs_fneg (a : F32) : fabs (fneg a) = fabs a := eq_of_sign_mag (by simp) (by simp)

/-- Off the fixed values, `cis_t` is `cisPos` and its mirror image. -/
theorem cisT_off_fixed {a : F32} (ha : isfinite a = true) (zero : feq a f0 = false) (half : feq (fabs a) fHalf = false) :
    cisT a = if fsign a then conj (cisPos (fneg a)) else cisPos a := by
  simp [cisT, ha, zero, half]

theorem cisT_zero {a : F32} (ha : isfinite a = true) (zero : feq a f0 = true) : cisT a = ⟨f1, f0⟩ := by
  simp [cisT, ha, zero]

theorem cisT_half {a : F32} (ha : isfinite a = true) (zero : feq a f0 = false) (half : feq (fabs a) fHalf = true) :
    cisT a = ⟨fneg f1, f0⟩ := by
  simp [cisT, ha, zero, half]

/-- The phasor of the negated angle is the conjugate (R16). -/
theorem cisT_fneg {a : F32} (ha : isfinite a = true) : ceq (cisT (fneg a)) (conj (cisT a)) = true := by
  have ha' : isfinite (fneg a) = true := (isfinite_fneg a).trans ha
  cases zero : feq a f0 with
  | true =>
    rw [cisT_zero ha zero, cisT_zero ha' ((feq_fneg_f0 a).trans zero)]
    decide
  | false =>
    have zero' : feq (fneg a) f0 = false := (feq_fneg_f0 a).trans zero
    cases half : feq (fabs a) fHalf with
    | true =>
      rw [cisT_half ha zero half, cisT_half ha' zero' (by rwa [fabs_fneg])]
      decide
    | false =>
      rw [cisT_off_fixed ha zero half, cisT_off_fixed ha' zero' (by rwa [fabs_fneg]), fsign_fneg, fneg_fneg]
      cases fsign a with
      | false => exact ceq_refl (isnan_cisPos a).1 (by simpa [conj] using (isnan_cisPos a).2)
      | true =>
        rw [if_neg (by decide), if_pos rfl, conj_conj]
        exact ceq_refl (isnan_cisPos _).1 (isnan_cisPos _).2

/-- The values R16 states of `cis_t`. -/
theorem cisT_values :
    cisT f0 = ⟨0x3F800000#32, f0⟩ ∧ cisT 0x3E800000#32 = ⟨f0, 0x3F800000#32⟩
      ∧ ceq (cisT 0xBE800000#32) ⟨f0, 0xBF800000#32⟩ = true
      ∧ cisT 0x3F000000#32 = ⟨0xBF800000#32, f0⟩ ∧ cisT 0xBF000000#32 = ⟨0xBF800000#32, f0⟩ := by
  have quarter : cisPos fQuarter = ⟨f0, f1⟩ := if_pos (by decide)
  have at_quarter : cisT fQuarter = ⟨f0, f1⟩ := by
    rw [cisT_off_fixed (by decide) (by decide) (by decide), if_neg (by decide), quarter]
  have at_neg_quarter : ceq (cisT (fneg fQuarter)) (conj (cisT fQuarter)) = true := cisT_fneg (by decide)
  rw [at_quarter] at at_neg_quarter
  exact ⟨rfl, at_quarter, at_neg_quarter, rfl, rfl⟩

/-- Settles O21: R14 and R15 are the definitions; R16 is the lemmas on `arg_t` and `cis_t` above. -/
theorem argAndCisProperties : Obligations.ArgAndCisProperties := by
  obtain ⟨zero, quarter, neg_quarter, half, neg_half⟩ := cisT_values
  refine ⟨fun a b r => ⟨rfl, rfl, rfl, rfl, rfl, rfl, rfl, rfl, rfl, rfl, rfl⟩, by decide, rfl, rfl,
    fun l x => List.foldl_concat .., fun l z => List.foldl_concat .., fun x => rfl,
    argT_on_axis (by decide) (by decide) (by decide), fun x _ hx => argT_axes hx, argT_inTurn, argT_conj,
    zero, quarter, neg_quarter, half, neg_half, fun a ha => cisT_fneg ha⟩

end Sys2Proof.Numerics

namespace Sys2Proof.Steps

open Sys2Proof.Machine Sys2Proof.Laws

/-! ## Command words (R150, R151) -/

/-- The opcode of a command word as a field of its number. -/
theorem opcode_toNat (w : BitVec 32) : (w.extractLsb' 24 8).toNat = field w.toNat 24 8 := by
  simp [field, BitVec.extractLsb'_toNat, Nat.shiftRight_eq_div_pow]

/-- A zero `ARG` as a field of the word's number. -/
theorem arg_eq_zero_iff (w : BitVec 32) : w.extractLsb' 0 24 = 0#24 ↔ field w.toNat 0 24 = 0 := by
  simp [← BitVec.toNat_inj, field, BitVec.extractLsb'_toNat]

/-- A rejected word has a reserved opcode or a nonzero `ARG` (R151). -/
theorem reservedWord_iff (w : BitVec 32) :
    reservedWord w = true ↔ 6 < (w.extractLsb' 24 8).toNat ∨ w.extractLsb' 0 24 ≠ 0#24 := by
  simp only [reservedWord, Bool.or_eq_true, decide_eq_true_eq, opcode_toNat, ne_eq, arg_eq_zero_iff]

/-- A rejected word stands for no defined command (R151). -/
theorem decodeCmd_of_reserved {w : BitVec 32} (h : reservedWord w = true) : decodeCmd w = .reserved w := by
  simp only [reservedWord, Bool.or_eq_true, decide_eq_true_eq] at h
  unfold decodeCmd
  split
  · rfl
  · next arg =>
    have op : 6 < field w.toNat 24 8 := h.resolve_right arg
    split
    case h_8 => rfl
    all_goals omega

/-- What a command word can stand for (R150). -/
theorem decodeCmd_mem (w : BitVec 32) :
    decodeCmd w ∈ [Instr.nop, .commit, .start, .stop, .softReset, .forceSearch, .clearCounters, .reserved w] := by
  unfold decodeCmd
  split
  · simp
  · split <;> simp

/-- A rejected word's reason: a reserved opcode before a nonzero `ARG` (R151, R810). -/
theorem cmdReserved_of_reserved {w : BitVec 32} (h : reservedWord w = true) (s : State) :
    cmdReserved w s =
      rejectCommand (if 6 < (w.extractLsb' 24 8).toNat then 1#2 else 2#2) (w.extractLsb' 24 8) s := by
  simp only [reservedWord, Bool.or_eq_true, decide_eq_true_eq] at h
  rw [opcode_toNat]
  unfold cmdReserved
  split
  · rfl
  · next op => rw [if_pos (h.resolve_left op)]

/-- A write to `CMD` does what the command it carries does (R36, R210; notes/assumptions/19.md). -/
theorem exec_write_cmd (s : State) (w : BitVec 32) : exec (.csrWrite 0x008#12 4 w) s = exec (decodeCmd w) s := by
  have reached : exec (.csrWrite 0x008#12 4 w) s = .next (answerOkay (cmdDispatch w s)) := by
    simp only [exec, execCsrWrite, show admitted 0x008#12 4 = some .cmd from admitted_csrOffset .cmd]
  have command := decodeCmd_mem w
  rw [reached, cmdDispatch]
  generalize decodeCmd w = i at command
  simp only [List.mem_cons, List.not_mem_nil, or_false] at command
  rcases command with h | h | h | h | h | h | h | h <;> subst h <;> rfl

/-- Settles O17: a write to `CMD` runs its command (`exec_write_cmd`); each rejection is `rejectCommand`. -/
theorem commandDispatch : Obligations.CommandDispatch := by
  have rejected (s : State) {w : BitVec 32} (h : reservedWord w = true) :
      exec (.reserved w) s =
        .next (answerOkay (rejectCommand (if 6 < (w.extractLsb' 24 8).toNat then 1#2 else 2#2) (w.extractLsb' 24 8) s)) :=
    congrArg (fun t => Host.Outcome.next (answerOkay t)) (cmdReserved_of_reserved h s)
  refine ⟨exec_write_cmd, fun s w h => rejected s h, fun s =>
    ⟨fun w op => ?_, fun w op arg => ?_, fun run => ?_, fun valid => ?_⟩⟩
  · have h := (reservedWord_iff w).mpr (.inl op)
    rw [exec_write_cmd, decodeCmd_of_reserved h, rejected s h, if_pos op]
    rfl
  · have h := (reservedWord_iff w).mpr (.inr arg)
    rw [exec_write_cmd, decodeCmd_of_reserved h, rejected s h, if_neg (not_lt.mpr op)]
    rfl
  · rw [exec_write_cmd, show decodeCmd 0x01000000#32 = .commit from rfl, exec, execCommit, cmdCommit, if_pos run]
    rfl
  · rw [exec_write_cmd, show decodeCmd 0x02000000#32 = .start from rfl, exec, execStart, cmdStart, if_neg (by simp [valid])]
    rfl

end Sys2Proof.Steps

namespace Sys2Proof.Steps

open Sys2Proof.Machine Sys2Proof.Laws

/-! ## Everything an agent's step can do (R110) -/

/-- The next states of every operation and agent's step but COMMIT and power-on reset, the two that change the active
configuration. One constructor per outcome, with what the model checked before it. -/
inductive Effect (s : State) : State → Prop where
  /-- a step that is not enabled -/
  | none : Effect s s
  | nop : Effect s (answerOkay s)
  | reject (reason : BitVec 2) (op : BitVec 8) : Effect s (answerOkay (rejectCommand reason op s))
  | start (valid : s.ctl.cfgValid = true) : Effect s (answerOkay { s with ctl := { s.ctl with running := true } })
  | stop : Effect s (answerOkay (cmdStop s))
  | softReset : Effect s (answerOkay (cmdSoftReset s))
  | forceSearch : Effect s (answerOkay (cmdForceSearch s))
  | clearCounters : Effect s (answerOkay (cmdClearCounters s))
  | refusedRead : Effect s (readError s)
  | read (r : Csr) : Effect s { csrReadEffect s r with port := { s.port with bus := ⟨true, csrValue s r⟩ } }
  | refusedWrite : Effect s (writeError s)
  | write (r : Csr) (w : BitVec 32) : Effect s (answerOkay (csrWriteEffect s r w))
  | beatTaken (x : Cplx) (ready : inReady s = true) :
    Effect s { s with fifo := { s.fifo with fIn := s.fifo.fIn ++ [x] }, port := { s.port with inAck := true } }
  | beatKept : Effect s { s with port := { s.port with inAck := false } }
  | beatOut (f : Frame) (rest : List Frame) (oldest : s.dsc.outbuf = f :: rest) :
    Effect s { s with
      dsc := if s.dsc.drain + 1 = f.count then { s.dsc with outbuf := rest, drain := 0 }
        else { s.dsc with drain := s.dsc.drain + 1 }
      port := { s.port with out := some (beatOf f s.dsc.drain) } }
  | noBeat : Effect s { s with port := { s.port with out := Option.none } }
  | agcStep (x : Cplx) (rest : List Cplx) (oldest : s.fifo.fIn = x :: rest) (staged : s.agc.outq = []) :
    Effect s (agcProcess x { s with fifo := { s.fifo with fIn := rest } })
  | mfStep (it : Item12) (rest : List Item12) (oldest : s.fifo.l12 = it :: rest) (staged : s.mf.outq = []) :
    Effect s (mfProcess it { s with fifo := { s.fifo with l12 := rest } })
  | strStep (it : Item23) (rest : List Item23) (oldest : s.fifo.l23 = it :: rest) (staged : s.str.outq = []) :
    Effect s (strProcess it { s with fifo := { s.fifo with l23 := rest } })
  | plsStep (it : Item34) (rest : List Item34) (oldest : s.fifo.l34 = it :: rest) (staged : s.pls.outq = []) :
    Effect s (plsProcess it { s with fifo := { s.fifo with l34 := rest } })
  | cprStep (it : Item45) (rest : List Item45) (oldest : s.fifo.l45 = it :: rest) (staged : s.cpr.outq = []) :
    Effect s (cprProcess it { s with fifo := { s.fifo with l45 := rest } })
  | dscStep (it : Item56) (rest : List Item56) (oldest : s.fifo.l56 = it :: rest) (assembling : s.dsc.cur.done = false) :
    Effect s (dscProcess it { s with fifo := { s.fifo with l56 := rest } })
  | hdrTest : Effect s (hdrTest s)
  | hdrDecode : Effect s (hdrDecode s)
  | freqUpdate : Effect s (freqUpdate s)
  | mix (z : Cplx) (pos : Nat) : Effect s (mixSymbol z pos s)
  | phaseRef : Effect s (phaseRef s)
  | pilotSymbol (blk o : Nat) (s1 : Cplx) : Effect s (pilotSymbol blk o s1 s)
  | drain (g : Group) : Effect s (drainStep g s)

/-- An effect that waits for an enabling condition; otherwise nothing happens (notes/assumptions/16.md). -/
theorem effect_of_guard {s t u : State} {ready : Bool} (h : Effect s u)
    (ht : (if ready = true then Host.Outcome.next (φ := Fault) (ρ := Refusal) u else .next s) = .next t) : Effect s t := by
  split at ht
  · cases ht
    exact h
  · cases ht
    exact .none

theorem exec_csrWrite_effect {s t : State} {off : BitVec 12} {size : Nat} {w : BitVec 32}
    (other : isCommandWrite off size = false) (h : exec (.csrWrite off size w) s = .next t) : Effect s t := by
  simp only [exec, execCsrWrite] at h
  split at h
  · cases h
    exact .refusedWrite
  · next reached =>
    obtain ⟨rfl, rfl⟩ := admitted_eq_some reached
    cases other
  · cases h
    exact .write _ w

/-- COMMIT takes effect while the block is stopped, and is rejected while it runs (R221). -/
theorem exec_commit_cases {s t : State} (h : exec .commit s = .next t) :
    (s.ctl.running = false ∧ t = answerOkay (commitEffect s)) ∨ Effect s t := by
  obtain rfl : answerOkay (cmdCommit s) = t := Host.Outcome.next.inj h
  cases run : s.ctl.running with
  | true => rw [cmdCommit, if_pos run]; exact .inr (.reject _ _)
  | false => rw [cmdCommit, if_neg (by simp [run])]; exact .inl ⟨rfl, rfl⟩

/-- What an operation but COMMIT and a write to `CMD` does. -/
theorem exec_effect {s t : State} {i : Instr} (h : exec i s = .next t) (notCommit : i ≠ .commit)
    (notCmd : ∀ off size w, i = .csrWrite off size w → isCommandWrite off size = false) : Effect s t := by
  cases i with
  | commit => exact absurd rfl notCommit
  | csrWrite off size w => exact exec_csrWrite_effect (notCmd off size w rfl) h
  | nop => cases h; exact .nop
  | start =>
    simp only [exec, execStart, cmdStart] at h
    split at h
    · next valid => cases h; exact .start valid
    · cases h; exact .reject _ _
  | stop => cases h; exact .stop
  | softReset => cases h; exact .softReset
  | forceSearch => cases h; exact .forceSearch
  | clearCounters => cases h; exact .clearCounters
  | reserved w =>
    simp only [exec, execReserved, cmdReserved] at h
    split at h
    · cases h; exact .reject _ _
    · split at h
      · cases h; exact .reject _ _
      · cases h; exact .nop
  | csrRead off size =>
    simp only [exec, execCsrRead] at h
    split at h
    · cases h; exact .refusedRead
    · cases h; exact .read _
  | inBeat i q =>
    simp only [exec, execInBeat] at h
    split at h
    · next ready => cases h; exact .beatTaken _ ready
    · cases h; exact .beatKept
  | outBeat =>
    simp only [exec, execOutBeat] at h
    split at h
    · cases h; exact .noBeat
    · next f rest oldest => cases h; exact .beatOut f rest oldest
  | agcStep =>
    obtain ⟨x, rest, oldest, -, staged, taken⟩ | kept := execAgcStep_cases s
    · cases taken.symm.trans h; exact .agcStep x rest oldest staged
    · cases kept.symm.trans h; exact .none
  | mfStep =>
    obtain ⟨it, rest, oldest, -, staged, taken⟩ | kept := execMfStep_cases s
    · cases taken.symm.trans h; exact .mfStep it rest oldest staged
    · cases kept.symm.trans h; exact .none
  | strStep =>
    obtain ⟨it, rest, oldest, -, staged, taken⟩ | kept := execStrStep_cases s
    · cases taken.symm.trans h; exact .strStep it rest oldest staged
    · cases kept.symm.trans h; exact .none
  | plsStep =>
    obtain ⟨it, rest, oldest, -, staged, taken⟩ | kept := execPlsStep_cases s
    · cases taken.symm.trans h; exact .plsStep it rest oldest staged
    · cases kept.symm.trans h; exact .none
  | dscStep =>
    obtain ⟨it, rest, oldest, -, assembling, taken⟩ | kept := execDscStep_cases s
    · cases taken.symm.trans h; exact .dscStep it rest oldest assembling
    · cases kept.symm.trans h; exact .none
  | hdrTest => exact effect_of_guard .hdrTest h
  | hdrDecode => exact effect_of_guard .hdrDecode h
  | freqUpdate => exact effect_of_guard .freqUpdate h
  | mix z pos => exact effect_of_guard (.mix z pos.toNat) h
  | phaseRef => exact effect_of_guard .phaseRef h
  | pilotSymbol blk o s1 => exact effect_of_guard (.pilotSymbol blk.toNat o.toNat s1) h

/-- A unit packet stands for a unit operation (R41). -/
theorem isUnitOp_of_decodeUnit {w : BitVec 88} {i : Instr} (h : decodeUnit w = .ok i) : isUnitOp i = true := by
  unfold decodeUnit at h
  split at h
  case h_4 | h_7 | h_9 => split at h <;> cases h <;> rfl
  all_goals cases h <;> rfl

/-- A write the decoder leaves to CSR_WRITE is none to `CMD` (R36). -/
theorem decode_csrWrite {p : Packet} {off : BitVec 12} {size : Nat} {w : BitVec 32}
    (h : decode p = .ok (.csrWrite off size w)) : isCommandWrite off size = false := by
  unfold decode at h
  split at h
  · cases h
  · next off' size' wdata =>
    split at h
    · have command := decodeCmd_mem wdata
      rw [Except.ok.inj h] at command
      simp at command
    · next other =>
      cases h
      simpa using other
  · cases h
  · cases h
  · cases isUnitOp_of_decodeUnit h

/-- Everything an agent's step can do: power-on reset, an admitted COMMIT, or an effect that leaves the configuration. -/
theorem agentStep_cases {a : Action} {s t : State} (h : agentStep a s = .next t) :
    (a = .powerOn ∧ t = powerOnReset s)
      ∨ (presents a .commit ∧ s.ctl.running = false ∧ t = answerOkay (commitEffect s))
      ∨ Effect s t := by
  cases a with
  | powerOn => cases h; exact .inl ⟨rfl, rfl⟩
  | drain g => cases h; exact .inr (.inr (.drain g))
  | cprStep =>
    cases h
    obtain ⟨it, rest, oldest, -, staged, taken⟩ | kept := cprStep_cases s
    · rw [taken]; exact .inr (.inr (.cprStep it rest oldest staged))
    · rw [kept]; exact .inr (.inr .none)
  | present p =>
    simp only [agentStep] at h
    split at h
    · next i decoded =>
      by_cases commit : i = .commit
      · subst commit
        exact .inr ((exec_commit_cases h).imp_left fun ⟨stopped, next⟩ => ⟨⟨p, rfl, decoded⟩, stopped, next⟩)
      · refine .inr (.inr (exec_effect h commit ?_))
        rintro off size w rfl
        exact decode_csrWrite decoded
    · cases h

/-- Everything a step can do (R110): with nothing scheduled, nothing; else the step of the agenda's first agent. -/
theorem step_cases {s t : State} (h : step s = .next t) :
    t = s ∨ ∃ a rest, s.agenda = a :: rest ∧ agentStep a { s with agenda := rest } = .next t := by
  simp only [step, runAgenda] at h
  split at h
  · cases h; exact .inl rfl
  · next a rest next => exact .inr ⟨a, rest, next, h⟩

end Sys2Proof.Steps

namespace Sys2Proof.Steps

open Sys2Proof.Machine Sys2Proof.Laws

/-! ## What each invariant reads

A view of a state keeps the items one invariant speaks of and resets the others, so that a step which leaves the view keeps the
invariant. -/

/-- The items of `MirrorInv`. -/
def mirrorView (s : State) : State :=
  { State.reset with
    act := { actReset with cfg := { cfgReset with symRate := s.act.cfg.symRate } }
    live := { State.reset.live with
      agcGainCur := s.live.agcGainCur
      strPeriodCur := s.live.strPeriodCur
      strMuCur := s.live.strMuCur
      strErrCur := s.live.strErrCur
      freqEst := s.live.freqEst
      freqEstHz := s.live.freqEstHz
      frameLen := s.live.frameLen }
    agc := { State.reset.agc with g := s.agc.g }
    str := { State.reset.str with delta := s.str.delta, muS := s.str.muS, eLast := s.str.eLast }
    cpr := { cprReset with fAct := s.cpr.fAct }
    pls := { plsReset with curLen := s.pls.curLen } }

/-- The items of `ControlInv`. -/
def controlView (s : State) : State :=
  { State.reset with
    act := s.act
    ctl := { State.reset.ctl with
      running := s.ctl.running
      cfgValid := s.ctl.cfgValid
      cfgErr := s.ctl.cfgErr
      numEvt := s.ctl.numEvt } }

/-- The items of `FrontInv`. -/
def frontView (s : State) : State :=
  { State.reset with
    act := s.act
    ctl := { State.reset.ctl with cfgValid := s.ctl.cfgValid }
    fifo := s.fifo
    agc := { State.reset.agc with outq := s.agc.outq }
    mf := s.mf
    str := { State.reset.str with outq := s.str.outq } }

/-- The items of `PlsInv`. -/
def syncView (s : State) : State :=
  { State.reset with
    pls := { s.pls with
      epoch := 0#32
      force := false
      cforce := false
      cforceEp := 0#32
      fid := 0#32
      symbolIdx := 0#64
      hit := false
      dec := decNone } }

theorem mirrorInv_view (s : State) : MirrorInv (mirrorView s) ↔ MirrorInv s :=
  ⟨fun h => { h with }, fun h => { h with }⟩

theorem controlInv_view (s : State) : ControlInv (controlView s) ↔ ControlInv s :=
  ⟨fun h => { h with }, fun h => { h with }⟩

theorem frontInv_view (s : State) : FrontInv (frontView s) ↔ FrontInv s :=
  ⟨fun h => { h with }, fun h => { h with }⟩

theorem plsInv_view (s : State) : PlsInv (syncView s) ↔ PlsInv s :=
  ⟨fun h => { h with }, fun h => { h with }⟩

theorem mirrorInv_congr {s t : State} (h : mirrorView t = mirrorView s) : MirrorInv s → MirrorInv t := by
  rw [← mirrorInv_view s, ← mirrorInv_view t, h]
  exact id

theorem controlInv_congr {s t : State} (h : controlView t = controlView s) : ControlInv s → ControlInv t := by
  rw [← controlInv_view s, ← controlInv_view t, h]
  exact id

theorem frontInv_congr {s t : State} (h : frontView t = frontView s) : FrontInv s → FrontInv t := by
  rw [← frontInv_view s, ← frontInv_view t, h]
  exact id

theorem plsInv_congr {s t : State} (h : PlsInv s) (same : syncView t = syncView s) : PlsInv t := by
  rw [← plsInv_view, same, plsInv_view]
  exact h

/-! ## Steps behind the front end

The synchroniser, carrier recovery and the descrambler leave the front end's items and the control items as they are, and
what they write into the live registers they also write into the unit state those copy. -/

/-- What every operation behind timing recovery leaves. -/
structure BackEnd (s t : State) : Prop where
  control : controlView t = controlView s
  front : frontView t = frontView s
  mirror : MirrorInv s → MirrorInv t

namespace BackEnd

theorem refl (s : State) : BackEnd s s := ⟨rfl, rfl, id⟩

theorem trans {s t u : State} (h : BackEnd s t) (k : BackEnd t u) : BackEnd s u :=
  ⟨k.control.trans h.control, k.front.trans h.front, k.mirror ∘ h.mirror⟩

theorem of_views {s t : State} (control : controlView t = controlView s) (front : frontView t = frontView s)
    (mirror : mirrorView t = mirrorView s) : BackEnd s t :=
  ⟨control, front, mirrorInv_congr mirror⟩

/-- An update that no view shows, before a back-end step. -/
theorem after {s t u : State} (k : BackEnd t u) (control : controlView t = controlView s) (front : frontView t = frontView s)
    (mirror : mirrorView t = mirrorView s) : BackEnd s u :=
  (of_views control front mirror).trans k

end BackEnd

/-- Carrier recovery's steps write nothing of the synchroniser but the FORCE request (R112, R640). -/
structure CarrierStep (s t : State) : Prop extends BackEnd s t where
  sync : syncView t = syncView s

namespace CarrierStep

theorem refl (s : State) : CarrierStep s s := ⟨.refl s, rfl⟩

theorem trans {s t u : State} (h : CarrierStep s t) (k : CarrierStep t u) : CarrierStep s u :=
  ⟨h.toBackEnd.trans k.toBackEnd, k.sync.trans h.sync⟩

theorem of_views {s t : State} (control : controlView t = controlView s) (front : frontView t = frontView s)
    (mirror : mirrorView t = mirrorView s) (sync : syncView t = syncView s) : CarrierStep s t :=
  ⟨.of_views control front mirror, sync⟩

/-- An update that no view shows, before a step of carrier recovery. -/
theorem after {s t u : State} (k : CarrierStep t u) (control : controlView t = controlView s)
    (front : frontView t = frontView s) (mirror : mirrorView t = mirrorView s) (sync : syncView t = syncView s) :
    CarrierStep s u :=
  (of_views control front mirror sync).trans k

end CarrierStep

/-! Carrier recovery (R601 to R640). -/

/-- The estimate and its copies change together (R47, R602, R603). -/
theorem applyFreq_carrier (s : State) : CarrierStep s (applyFreq s) :=
  ⟨⟨rfl, rfl, fun h => { h with freqEst := rfl, freqHz := .inr rfl }⟩, rfl⟩

theorem mixSymbol_carrier (z : Cplx) (pos : Nat) (s : State) : CarrierStep s (mixSymbol z pos s) := by
  unfold mixSymbol
  split
  · exact (applyFreq_carrier s).trans (.of_views rfl rfl rfl rfl)
  · exact .of_views rfl rfl rfl rfl

theorem emit56_carrier (it : Item56) (s : State) : CarrierStep s (emit56 it s) := .of_views rfl rfl rfl rfl

theorem reportCut_carrier (s : State) : CarrierStep s (reportCut s) := by
  unfold reportCut
  split
  · exact emit56_carrier _ s
  · exact .refl s

theorem openFrame_carrier (it : Item45) (s : State) : CarrierStep s (openFrame it s) := .of_views rfl rfl rfl rfl

theorem dropIfFailed_carrier (it : Item45) (s : State) : CarrierStep s (dropIfFailed it s) := by
  unfold dropIfFailed
  split <;> exact .of_views rfl rfl rfl rfl

theorem frameStart_carrier (it : Item45) (s : State) : CarrierStep s (frameStart it s) :=
  (reportCut_carrier s).trans ((openFrame_carrier it _).trans (dropIfFailed_carrier it _))

theorem freqUpdate_carrier (s : State) : CarrierStep s (freqUpdate s) := .of_views rfl rfl rfl rfl

theorem estimate_carrier (s : State) : CarrierStep s (estimate s) := by
  unfold estimate
  dsimp only
  split
  · exact (freqUpdate_carrier _).after rfl rfl rfl rfl
  · exact .of_views rfl rfl rfl rfl

theorem phaseRef_carrier (s : State) : CarrierStep s (phaseRef s) := .of_views rfl rfl rfl rfl

theorem storeHeader_carrier (z s1 : Cplx) (pos : Nat) (s : State) : CarrierStep s (storeHeader z s1 pos s) :=
  .of_views rfl rfl rfl rfl

theorem headerSymbol_carrier (z s1 : Cplx) (pos : Nat) (s : State) : CarrierStep s (headerSymbol z s1 pos s) := by
  unfold headerSymbol
  split
  · exact (storeHeader_carrier z s1 pos s).trans ((estimate_carrier _).trans (phaseRef_carrier _))
  · exact storeHeader_carrier z s1 pos s

theorem dataSymbol_carrier (didx pos : Nat) (s1 : Cplx) (s : State) : CarrierStep s (dataSymbol didx pos s1 s) := by
  unfold dataSymbol
  split
  · exact .of_views rfl rfl rfl rfl
  · exact emit56_carrier _ s

theorem pilotAccumulate_carrier (i : Nat) (s1 : Cplx) (s : State) : CarrierStep s (pilotAccumulate i s1 s) :=
  .of_views rfl rfl rfl rfl

theorem pilotFail_carrier (s : State) : CarrierStep s (pilotFail s) := .of_views rfl rfl rfl rfl

theorem pilotReference_carrier (blk : Nat) (s : State) : CarrierStep s (pilotReference blk s) := .of_views rfl rfl rfl rfl

theorem pilotSymbol_carrier (blk o : Nat) (s1 : Cplx) (s : State) : CarrierStep s (pilotSymbol blk o s1 s) := by
  have accumulated := pilotAccumulate_carrier (pilotIndex blk o) s1 s
  unfold pilotSymbol
  dsimp only
  split
  · split
    · exact accumulated.trans (pilotFail_carrier _)
    · exact accumulated.trans (pilotReference_carrier blk _)
  · exact accumulated

theorem cprCase_carrier (it : Item45) (s : State) : CarrierStep s (cprCase it s) := by
  unfold cprCase
  split
  · exact headerSymbol_carrier _ _ _ s
  · exact pilotSymbol_carrier _ _ _ s
  · exact dataSymbol_carrier _ _ _ s

theorem closeFrame_carrier (it : Item45) (s : State) : CarrierStep s (closeFrame it s) := by
  unfold closeFrame
  split
  · exact .of_views rfl rfl rfl rfl
  · exact .refl s

theorem cprBody_carrier (it : Item45) (s : State) : CarrierStep s (cprBody it s) := by
  have mixed : CarrierStep s
      (mixSymbol it.z it.pos { s with cpr := { s.cpr with fr := { s.cpr.fr with next := it.pos + 1 } } }) :=
    (mixSymbol_carrier it.z it.pos _).after rfl rfl rfl rfl
  unfold cprBody
  dsimp only
  split
  · exact mixed
  · exact mixed.trans ((cprCase_carrier it _).trans (closeFrame_carrier it _))

theorem cprProcess_carrier (it : Item45) (s : State) : CarrierStep s (cprProcess it s) := by
  unfold cprProcess
  split
  · exact (frameStart_carrier it s).trans (cprBody_carrier it _)
  · split
    · exact cprBody_carrier it s
    · exact .refl s

/-! The synchroniser (R520 to R537). -/

theorem lastHdr_backEnd (sym0 smp0 : Idx) (s : State) : BackEnd s (lastHdr sym0 smp0 s) := .of_views rfl rfl rfl
theorem slide_backEnd (y : Cplx) (smp : Idx) (s : State) : BackEnd s (slide y smp s) := .of_views rfl rfl rfl
theorem countSymbol_backEnd (s : State) : BackEnd s (countSymbol s) := .of_views rfl rfl rfl
theorem clearPend_backEnd (s : State) : BackEnd s (clearPend s) := .of_views rfl rfl rfl
theorem emit_backEnd (z : Cplx) (smp : Idx) (pos : Nat) (s : State) : BackEnd s (emit z smp pos s) := .of_views rfl rfl rfl

theorem emitHeader_backEnd (w : List Cplx) (ws : List Idx) (s : State) : BackEnd s (emitHeader w ws s) := by
  rw [emitHeader_eq]
  exact .of_views rfl rfl rfl

/-- The frame length leaves with the lock, in the register too (R47, R529). -/
theorem enterSearch_backEnd (s : State) : BackEnd s (enterSearch s) :=
  ⟨rfl, rfl, fun h => { h with frameLength := rfl }⟩

theorem trackFrame_backEnd (p : BitVec 7) (s : State) : BackEnd s (trackFrame p s) :=
  ⟨rfl, rfl, fun h => { h with frameLength := rfl }⟩

theorem leaveLock_backEnd (s : State) : BackEnd s (leaveLock s) := by
  unfold leaveLock
  split
  · exact .refl s
  · exact enterSearch_backEnd s

theorem hostForce_backEnd (s : State) : BackEnd s (hostForce s) := by
  unfold hostForce
  split
  · exact (leaveLock_backEnd _).after rfl rfl rfl
  · exact .refl s

theorem carrierForce_backEnd (s : State) : BackEnd s (carrierForce s) := by
  unfold carrierForce
  split
  · split
    · exact (leaveLock_backEnd _).after rfl rfl rfl
    · exact .of_views rfl rfl rfl
  · exact .refl s

theorem startFrame_backEnd (p : BitVec 7) (s : State) : BackEnd s (startFrame p s) := by
  rw [startFrame_eq]
  split
  · exact .of_views rfl rfl rfl
  · split <;> exact .of_views rfl rfl rfl

theorem searchStep_backEnd (idx : Idx) (s : State) : BackEnd s (searchStep idx s) := by
  unfold searchStep
  dsimp only
  split
  · split <;> exact .of_views rfl rfl rfl
  · exact .refl s

/-- The tracked length and `FRAME_LEN` are written together (R47, R525). -/
theorem enterLock_backEnd (d : Pend) (s : State) : BackEnd s (enterLock d s) := by
  refine .trans ?_ (startFrame_backEnd d.dec.pls _)
  exact ⟨rfl, rfl, fun h => { h with frameLength := rfl }⟩

theorem confirmStep_backEnd (y : Cplx) (smp idx : Idx) (s : State) : BackEnd s (confirmStep y smp idx s) := by
  unfold confirmStep
  split
  · exact (searchStep_backEnd idx _).after rfl rfl rfl
  · next d _ =>
    split
    · have locked := enterLock_backEnd d s
      dsimp only
      split
      · exact locked.trans ((emitHeader_backEnd _ _ _).trans ((emit_backEnd _ _ _ _).trans (clearPend_backEnd _)))
      · exact locked.trans (clearPend_backEnd _)
    · exact (searchStep_backEnd idx _).after rfl rfl rfl

theorem checkHeader_backEnd (s : State) : BackEnd s (checkHeader s) := .of_views rfl rfl rfl

theorem acceptHeader_backEnd (p : BitVec 7) (idx : Idx) (s : State) : BackEnd s (acceptHeader p idx s) := by
  have started := (lastHdr_backEnd (idx - 89#64) (s.pls.wsmp.getD 0 0#64) s).trans (startFrame_backEnd p _)
  unfold acceptHeader
  dsimp only
  split
  · exact started.trans (emitHeader_backEnd _ _ _)
  · exact started

theorem failHeader_backEnd (p : BitVec 7) (s : State) : BackEnd s (failHeader p s) := by
  unfold failHeader
  dsimp only
  split <;> exact .of_views rfl rfl rfl

theorem check_backEnd (idx : Idx) (s : State) : BackEnd s (check idx s) := by
  have checked := checkHeader_backEnd s
  unfold check
  dsimp only
  split
  · exact checked.trans (enterSearch_backEnd _)
  · split
    · exact checked.trans ((trackFrame_backEnd _ _).trans (acceptHeader_backEnd _ idx _))
    · exact checked.trans ((trackFrame_backEnd _ _).trans (failHeader_backEnd _ _))

theorem trackStep_backEnd (y : Cplx) (smp idx : Idx) (s : State) : BackEnd s (trackStep y smp idx s) := by
  have counted : BackEnd s { s with pls := { s.pls with cnt := s.pls.cnt - 1 } } := .of_views rfl rfl rfl
  unfold trackStep
  dsimp only
  split
  · split
    · exact counted.trans (emit_backEnd _ _ _ _)
    · exact counted
  · split
    · exact counted.trans (check_backEnd idx _)
    · exact counted

theorem plsCase_backEnd (it : Item34) (idx : Idx) (s : State) : BackEnd s (plsCase it idx s) := by
  unfold plsCase
  split
  · exact searchStep_backEnd idx s
  · exact confirmStep_backEnd it.y it.smp idx s
  · exact trackStep_backEnd it.y it.smp idx s

theorem plsProcess_backEnd (it : Item34) (s : State) : BackEnd s (plsProcess it s) :=
  (hostForce_backEnd s).trans ((carrierForce_backEnd _).trans ((countSymbol_backEnd _).trans
    ((slide_backEnd it.y it.smp _).trans (plsCase_backEnd it _ _))))

/-- The descrambler (R711, R720). -/
theorem dscProcess_backEnd (it : Item56) (s : State) : BackEnd s (dscProcess it s) := by
  cases it <;> exact .of_views rfl rfl rfl

end Sys2Proof.Steps

namespace Sys2Proof.Steps

open Sys2Proof.Machine Sys2Proof.Laws

/-! ## The registers, the control items and the front end's bounds -/

/-- The three invariants of the registers, the control items and the front end are kept. -/
structure Keeps (s t : State) : Prop where
  mirror : MirrorInv s → MirrorInv t
  control : ControlInv s → ControlInv t
  front : FrontInv s → FrontInv t

namespace Keeps

theorem trans {s t u : State} (h : Keeps s t) (k : Keeps t u) : Keeps s u :=
  ⟨k.mirror ∘ h.mirror, k.control ∘ h.control, k.front ∘ h.front⟩

theorem of_views {s t : State} (control : controlView t = controlView s) (front : frontView t = frontView s)
    (mirror : mirrorView t = mirrorView s) : Keeps s t :=
  ⟨mirrorInv_congr mirror, controlInv_congr control, frontInv_congr front⟩

end Keeps

theorem BackEnd.keeps {s t : State} (h : BackEnd s t) : Keeps s t :=
  ⟨h.mirror, controlInv_congr h.control, frontInv_congr h.front⟩

/-- What the delay line holds decides how many elements are in use (R63, R902; notes/assumptions/14.md). -/
theorem delayLine_length {s : State} (stored : s.mf.x.length = if s.act.l = 0 then 0 else 2 * s.act.kh + 1) :
    (delayLine s).length = if s.ctl.cfgValid = true ∧ s.act.l ≠ 0 then 2 * s.act.kh + 1 else 0 := by
  cases valid : s.ctl.cfgValid with
  | false => simp [delayLine, valid]
  | true =>
    by_cases empty : s.act.l = 0
    · simp [delayLine, valid, stored, empty]
    · simp [delayLine, valid, stored, empty]

theorem answerOkay_keeps (s : State) : Keeps s (answerOkay s) := .of_views rfl rfl rfl

/-! Saturation (R17, R803). -/

theorem mirrorView_raiseNumIf (b : Bool) (u : NumUnit) (s : State) : mirrorView (raiseNumIf b u s) = mirrorView s := by
  cases b <;> rfl

theorem frontView_raiseNumIf (b : Bool) (u : NumUnit) (s : State) : frontView (raiseNumIf b u s) = frontView s := by
  cases b <;> rfl

/-- A unit sets its own bit of `NUM_EVT`, one of 0 to 2 (R41, R803). -/
theorem raiseNumIf_controlInv (b : Bool) (u : NumUnit) {s : State} (h : ControlInv s) : ControlInv (raiseNumIf b u s) := by
  cases b with
  | false => exact h
  | true =>
    have unitBits : numMask u &&& 0x3F8#10 = 0#10 := by cases u <;> rfl
    have numBits : (s.ctl.numEvt ||| numMask u) &&& 0x3F8#10 = 0#10 := by
      rw [BitVec.and_or_distrib_right, h.numBits, unitBits, BitVec.or_self]
    exact { h with numBits := numBits }

theorem raiseNumIf_keeps (b : Bool) (u : NumUnit) (s : State) : Keeps s (raiseNumIf b u s) :=
  ⟨mirrorInv_congr (mirrorView_raiseNumIf b u s), raiseNumIf_controlInv b u, frontInv_congr (frontView_raiseNumIf b u s)⟩

/-! Resets and COMMIT (R221, R900, R902). -/

theorem mfReset_length (a : Act) : (mfReset a).x.length = if a.l = 0 then 0 else 2 * a.kh + 1 := by
  unfold mfReset
  split <;> simp

theorem resetUnits_mirrorInv (s : State) : MirrorInv (resetUnits s) := ⟨rfl, rfl, rfl, rfl, rfl, .inl rfl, rfl⟩

theorem resetUnits_frontInv (s : State) : FrontInv (resetUnits s) where
  input := Nat.zero_le _
  l12 := Nat.zero_le _
  l23 := Nat.zero_le _
  l34 := Nat.zero_le _
  l45 := Nat.zero_le _
  l56 := Nat.zero_le _
  agcStaged := Nat.zero_le _
  mfStaged := Nat.zero_le _
  strStaged := Nat.zero_le _
  stored := mfReset_length s.act
  inUse := delayLine_length (mfReset_length s.act)

theorem softReset_keeps (s : State) : Keeps s (cmdSoftReset s) :=
  ⟨fun _ => resetUnits_mirrorInv _, fun h => { h with runningValid := nofun }, fun _ => resetUnits_frontInv _⟩

theorem powerOnReset_keeps (s : State) : Keeps s (powerOnReset s) :=
  ⟨fun _ => resetUnits_mirrorInv (powerOnReset s), fun _ => ⟨nofun, nofun, nofun, nofun, BitVec.zero_and⟩,
    fun _ => resetUnits_frontInv (powerOnReset s)⟩

/-- A COMMIT of the stopped block puts a checked configuration and its coefficients in place, or clears `CFG_VALID` (R221). -/
theorem commit_keeps {s : State} (stopped : s.ctl.running = false) : Keeps s (commitEffect s) := by
  unfold commitEffect
  split
  · next legal =>
    refine ⟨fun _ => resetUnits_mirrorInv _, fun h => ?_, fun _ => resetUnits_frontInv _⟩
    exact ⟨fun _ => rfl, fun _ => rfl, fun _ => legal, fun _ => rfl, h.numBits⟩
  · refine ⟨mirrorInv_congr rfl, fun h => ?_, fun h => ?_⟩
    · exact ⟨fun run => absurd (stopped.symm.trans run) nofun, nofun, nofun, nofun, h.numBits⟩
    · exact { h with inUse := delayLine_length h.stored }

/-! Host writes (R200, R222, R223). -/

theorem start_keeps {s : State} (valid : s.ctl.cfgValid = true) :
    Keeps s (answerOkay { s with ctl := { s.ctl with running := true } }) :=
  ⟨mirrorInv_congr rfl, fun h => { h with runningValid := fun _ => valid }, frontInv_congr rfl⟩

theorem stop_keeps (s : State) : Keeps s (answerOkay (cmdStop s)) :=
  ⟨mirrorInv_congr rfl, fun h => { h with runningValid := nofun }, frontInv_congr rfl⟩

/-- A write can clear bits of `NUM_EVT` only (R200). -/
theorem write_keeps (r : Csr) (w : BitVec 32) (s : State) : Keeps s (answerOkay (csrWriteEffect s r w)) := by
  unfold csrWriteEffect
  split
  case h_2 =>
    refine ⟨mirrorInv_congr rfl, fun h => { h with numBits := ?_ }, frontInv_congr rfl⟩
    have cleared : s.ctl.numEvt &&& ~~~(w.setWidth 10) &&& 0x3F8#10 = 0#10 := by
      rw [BitVec.and_assoc, BitVec.and_comm (~~~_), ← BitVec.and_assoc, h.numBits, BitVec.zero_and]
    exact cleared
  all_goals exact .of_views rfl rfl rfl

/-! Process and drain steps of the front end (R110). -/

/-- Taking the oldest item leaves fewer. -/
theorem rest_length_le {α : Type} {l rest : List α} {x : α} {n : Nat} (bound : l.length ≤ n) (oldest : l = x :: rest) :
    rest.length ≤ n := Nat.le_of_succ_le (by simpa [oldest] using bound)

theorem inBeat_keeps {s : State} (x : Cplx) (ready : inReady s = true) :
    Keeps s { s with fifo := { s.fifo with fIn := s.fifo.fIn ++ [x] }, port := { s.port with inAck := true } } := by
  simp only [inReady, Bool.and_eq_true, decide_eq_true_eq] at ready
  refine ⟨mirrorInv_congr rfl, controlInv_congr rfl, fun h => { h with input := ?_ }⟩
  simpa using ready.2

theorem agcStep_keeps {s : State} {x : Cplx} {rest : List Cplx} (oldest : s.fifo.fIn = x :: rest) (staged : s.agc.outq = []) :
    Keeps s (agcProcess x { s with fifo := { s.fifo with fIn := rest } }) := by
  refine .trans ?_ (raiseNumIf_keeps _ .agc _)
  refine ⟨fun h => ?_, controlInv_congr rfl, fun h => ?_⟩
  · exact { h with agcGain := rfl }
  · exact { h with input := rest_length_le h.input oldest, agcStaged := by simp [staged] }

theorem mfStep_keeps {s : State} {it : Item12} {rest : List Item12} (oldest : s.fifo.l12 = it :: rest) (staged : s.mf.outq = []) :
    Keeps s (mfProcess it { s with fifo := { s.fifo with l12 := rest } }) := by
  refine .trans ?_ (raiseNumIf_keeps _ .mf _)
  refine ⟨mirrorInv_congr rfl, controlInv_congr rfl, fun h => ?_⟩
  have stored := (mfShift_length it.z s.mf.x).trans h.stored
  exact
    { h with
      l12 := rest_length_le h.l12 oldest
      mfStaged := by simp [staged]
      stored := stored
      inUse := delayLine_length stored }

/-- The event loop is made of midpoints and strobes (R402). -/
theorem strLoop_induction {P : State → Prop} (y : List Cplx) (smp : Idx) (mid : ∀ s, P s → P (midpoint y s))
    (str : ∀ s, P s → P (strobe y smp s)) (k : Nat) (s : State) (h : P s) : P (strLoop y smp k s) := by
  induction k generalizing s with
  | zero => exact h
  | succ k ih =>
    unfold strLoop
    split
    · exact ih _ (mid s h)
    · split
      · exact ih _ (str s h)
      · exact h

/-- One item stages at most one symbol: a strobe puts the next into a later item (R110, R406; notes/assumptions/12.md). -/
theorem strLoop_staged (y : List Cplx) (smp : Idx) (k : Nat) (s : State) :
    (strLoop y smp k s).str.outq.length ≤ s.str.outq.length + 1 := by
  have noStrobe (k : Nat) (t : State) (later : t.str.cS ≠ 0) : (strLoop y smp k t).str.outq = t.str.outq := by
    cases k with
    | zero => rfl
    | succ k =>
      rw [strLoop_midpoint y smp k t later]
      split <;> rfl
  induction k generalizing s with
  | zero => exact Nat.le_succ _
  | succ k ih =>
    unfold strLoop
    split
    · exact ih (midpoint y s)
    · split
      · obtain ⟨later, staged⟩ := strobe_next y smp s
        rw [noStrobe k _ (Nat.ne_zero_of_lt later), staged]
        simp
      · exact Nat.le_succ _

/-- A strobe writes the period, the position and the error into their registers (R47, R404 to R407). -/
theorem strobe_mirrorInv (y : List Cplx) (smp : Idx) (s : State) (h : MirrorInv s) : MirrorInv (strobe y smp s) := by
  refine mirrorInv_congr (mirrorView_raiseNumIf _ .str _) ?_
  exact { h with strPeriod := rfl, strMu := rfl, strErr := rfl }

theorem strobe_controlInv (y : List Cplx) (smp : Idx) (s : State) (h : ControlInv s) : ControlInv (strobe y smp s) := by
  refine raiseNumIf_controlInv _ .str ?_
  exact { h with }

theorem frontView_strobe (y : List Cplx) (smp : Idx) (q : Str) (s : State) :
    frontView { strobe y smp s with str := q } = frontView { s with str := q } := by
  unfold strobe raiseNumIf
  dsimp only
  split <;> rfl

theorem strStep_keeps {s : State} {it : Item23} {rest : List Item23} (oldest : s.fifo.l23 = it :: rest)
    (staged : s.str.outq = []) : Keeps s (strProcess it { s with fifo := { s.fifo with l23 := rest } }) := by
  generalize taken : ({ s with fifo := { s.fifo with l23 := rest } } : State) = u
  refine ⟨fun h => ?_, fun h => ?_, fun h => ?_⟩
  · have looped : MirrorInv (strLoop it.y it.smp 3 u) :=
      strLoop_induction it.y it.smp (fun _ h => { h with }) (strobe_mirrorInv _ _) 3 u (by subst taken; exact { h with })
    exact { looped with }
  · have looped : ControlInv (strLoop it.y it.smp 3 u) :=
      strLoop_induction it.y it.smp (fun _ h => { h with }) (strobe_controlInv _ _) 3 u (by subst taken; exact { h with })
    exact { looped with }
  · have looped : frontView { strLoop it.y it.smp 3 u with str := s.str } = frontView u :=
      strLoop_induction (P := fun t => frontView { t with str := s.str } = frontView u) it.y it.smp (fun _ h => h)
        (fun t h => (frontView_strobe it.y it.smp s.str t).trans h) 3 u (by subst taken; rfl)
    have one : (strLoop it.y it.smp 3 u).str.outq.length ≤ 1 := by
      have bound := strLoop_staged it.y it.smp 3 u
      subst taken
      simpa [staged] using bound
    have front : FrontInv u := by subst taken; exact { h with l23 := rest_length_le h.l23 oldest }
    exact { frontInv_congr looped front with strStaged := one }

/-- A drain step puts an item into a FIFO that has room for it (R110). -/
theorem length_append_le {α : Type} {l : List α} {running : Bool} (x : α) (ready : (running && linkFree l.length) = true) :
    (l ++ [x]).length ≤ Config.depthLink := by
  simp only [linkFree, Bool.and_eq_true, decide_eq_true_eq] at ready
  simpa using ready.2

theorem drainStep_frontInv (g : Group) {s : State} (h : FrontInv s) : FrontInv (drainStep g s) := by
  cases g with
  | dsc =>
    simp only [drainStep, drainDsc]
    split
    · exact frontInv_congr (s := s) rfl h
    · exact h
  | agc =>
    simp only [drainStep, drainAgc]
    split
    · exact h
    · next it rest queue =>
      split
      · next ready => exact { h with l12 := length_append_le it ready, agcStaged := rest_length_le h.agcStaged queue }
      · exact h
  | mf =>
    simp only [drainStep, drainMf]
    split
    · exact h
    · next it rest queue =>
      split
      · next ready => exact { h with l23 := length_append_le it ready, mfStaged := rest_length_le h.mfStaged queue }
      · exact h
  | str =>
    simp only [drainStep, drainStr]
    split
    · exact h
    · next it rest queue =>
      split
      · next ready => exact { h with l34 := length_append_le it ready, strStaged := rest_length_le h.strStaged queue }
      · exact h
  | pls =>
    simp only [drainStep, drainPls]
    split
    · exact h
    · next it rest _ =>
      split
      · next ready => exact { h with l45 := length_append_le it ready }
      · exact h
  | cpr =>
    simp only [drainStep, drainCpr]
    split
    · exact h
    · next it rest _ =>
      split
      · next ready => exact { h with l56 := length_append_le it ready }
      · exact h

theorem drainStep_views (g : Group) (s : State) :
    mirrorView (drainStep g s) = mirrorView s ∧ controlView (drainStep g s) = controlView s := by
  cases g <;> simp only [drainStep, drainAgc, drainMf, drainStr, drainPls, drainCpr, drainDsc]
  all_goals repeat' split
  all_goals exact ⟨rfl, rfl⟩

theorem drainStep_keeps (g : Group) (s : State) : Keeps s (drainStep g s) :=
  ⟨mirrorInv_congr (drainStep_views g s).1, controlInv_congr (drainStep_views g s).2, drainStep_frontInv g⟩

/-! Taking an item behind the front end. -/

theorem take34_keeps {s : State} {it : Item34} {rest : List Item34} (oldest : s.fifo.l34 = it :: rest) :
    Keeps s { s with fifo := { s.fifo with l34 := rest } } :=
  ⟨mirrorInv_congr rfl, controlInv_congr rfl,
    fun h => { h with l34 := rest_length_le h.l34 oldest }⟩

theorem take45_keeps {s : State} {it : Item45} {rest : List Item45} (oldest : s.fifo.l45 = it :: rest) :
    Keeps s { s with fifo := { s.fifo with l45 := rest } } :=
  ⟨mirrorInv_congr rfl, controlInv_congr rfl,
    fun h => { h with l45 := rest_length_le h.l45 oldest }⟩

theorem take56_keeps {s : State} {it : Item56} {rest : List Item56} (oldest : s.fifo.l56 = it :: rest) :
    Keeps s { s with fifo := { s.fifo with l56 := rest } } :=
  ⟨mirrorInv_congr rfl, controlInv_congr rfl,
    fun h => { h with l56 := rest_length_le h.l56 oldest }⟩

/-- Every effect keeps the three invariants. -/
theorem Effect.keeps {s t : State} (h : Effect s t) : Keeps s t := by
  cases h with
  | start valid => exact start_keeps valid
  | stop => exact stop_keeps s
  | softReset => exact (softReset_keeps s).trans (answerOkay_keeps _)
  | write r w => exact write_keeps r w s
  | read r => cases r <;> exact .of_views rfl rfl rfl
  | beatTaken x ready => exact inBeat_keeps x ready
  | agcStep x rest oldest staged => exact agcStep_keeps oldest staged
  | mfStep it rest oldest staged => exact mfStep_keeps oldest staged
  | strStep it rest oldest staged => exact strStep_keeps oldest staged
  | plsStep it rest oldest _ => exact (take34_keeps oldest).trans (plsProcess_backEnd it _).keeps
  | cprStep it rest oldest _ => exact (take45_keeps oldest).trans (cprProcess_carrier it _).keeps
  | dscStep it rest oldest _ => exact (take56_keeps oldest).trans (dscProcess_backEnd it _).keeps
  | mix z pos => exact (mixSymbol_carrier z pos s).keeps
  | pilotSymbol blk o s1 => exact (pilotSymbol_carrier blk o s1 s).keeps
  | drain g => exact drainStep_keeps g s
  | none | nop | reject | forceSearch | clearCounters | refusedRead | refusedWrite | beatKept | beatOut | noBeat | hdrTest
  | hdrDecode | freqUpdate | phaseRef => exact .of_views rfl rfl rfl

theorem agentStep_keeps {a : Action} {s t : State} (h : agentStep a s = .next t) : Keeps s t := by
  obtain ⟨-, rfl⟩ | ⟨-, stopped, rfl⟩ | effect := agentStep_cases h
  · exact powerOnReset_keeps s
  · exact (commit_keeps stopped).trans (answerOkay_keeps _)
  · exact effect.keeps

/-- Settles O56, by the inversion of a step (`agentStep_cases`) and one lemma per effect. -/
theorem stepKeepsRegistersAndBounds : Obligations.StepKeepsRegistersAndBounds := by
  intro s t h
  obtain rfl | ⟨a, rest, -, next⟩ := step_cases h
  · exact ⟨id, id, id⟩
  · have kept : Keeps s t := .trans (t := { s with agenda := rest }) (.of_views rfl rfl rfl) (agentStep_keeps next)
    exact ⟨kept.mirror, kept.control, kept.front⟩

/-! ## The active configuration (R34, R117) -/

theorem act_of_control {s t : State} (h : controlView t = controlView s) : t.act = s.act := (congrArg State.act h :)

theorem raiseNumIf_act (b : Bool) (u : NumUnit) (s : State) : (raiseNumIf b u s).act = s.act := by
  cases b <;> rfl

theorem strobe_act (y : List Cplx) (smp : Idx) (s : State) : (strobe y smp s).act = s.act :=
  (congrArg State.act (frontView_strobe y smp s.str s) :)

theorem strLoop_act (y : List Cplx) (smp : Idx) (k : Nat) (s : State) : (strLoop y smp k s).act = s.act :=
  strLoop_induction (P := fun t => t.act = s.act) y smp (fun _ h => h) (fun t h => (strobe_act y smp t).trans h) k s rfl

theorem csrWriteEffect_act (r : Csr) (w : BitVec 32) (s : State) : (csrWriteEffect s r w).act = s.act := by
  unfold csrWriteEffect
  split <;> rfl

/-- No effect but COMMIT and power-on reset changes the active configuration. -/
theorem Effect.act {s t : State} (h : Effect s t) : t.act = s.act := by
  cases h with
  | read r => cases r <;> rfl
  | write r w => exact csrWriteEffect_act r w s
  | agcStep x rest _ _ => exact raiseNumIf_act _ .agc _
  | mfStep it rest _ _ => exact raiseNumIf_act _ .mf _
  | strStep it rest _ _ => exact strLoop_act it.y it.smp 3 _
  | plsStep it rest _ _ => exact act_of_control (plsProcess_backEnd it _).control
  | cprStep it rest _ _ => exact act_of_control (cprProcess_carrier it _).control
  | dscStep it rest _ _ => exact act_of_control (dscProcess_backEnd it _).control
  | mix z pos => exact act_of_control (mixSymbol_carrier z pos s).control
  | pilotSymbol blk o s1 => exact act_of_control (pilotSymbol_carrier blk o s1 s).control
  | drain g => exact act_of_control (drainStep_views g s).2
  | none | nop | reject | start | stop | softReset | forceSearch | clearCounters | refusedRead | refusedWrite | beatTaken
  | beatKept | beatOut | noBeat | hdrTest | hdrDecode | freqUpdate | phaseRef => rfl

/-- Settles O10: of what an agent's step can do, only power-on reset and an admitted COMMIT are no `Effect`. -/
theorem activeConfigurationFrozen : Obligations.ActiveConfigurationFrozen := by
  intro s t a h notReset frozen
  obtain ⟨reset, -⟩ | ⟨commit, stopped, -⟩ | effect := agentStep_cases h
  · exact absurd reset notReset
  · rcases frozen with running | notCommit
    · exact absurd (stopped.symm.trans running) nofun
    · exact absurd commit notCommit
  · exact effect.act

end Sys2Proof.Steps

namespace Sys2Proof.Sync

open Sys2Proof.Machine Sys2Proof.Laws Sys2Proof.Steps

/-! ## The synchroniser's invariant (R65, R110, R520 to R529) -/

/-- Every frame, a dummy too, is longer than its header (R520). -/
theorem header_le_frameLen (p : BitVec 7) : 90 ≤ frameLen p := by
  unfold frameLen
  split <;> omega

/-- An accepted decode is a supported value (R507, R512). -/
theorem supported_of_decideWord_ok (c : Cfg) (word : BitVec 64) (h : (decideWord c word).ok = true) :
    supported (decideWord c word).pls = true := (Bool.and_eq_true_iff.mp h).2

/-- START_FRAME writes the forwarding flag and the frame number only (R532). -/
theorem startFrame_pls (p : BitVec 7) (s : State) :
    ∃ fwd fid, (startFrame p s).pls = { s.pls with fwd := fwd, fid := fid } := by
  rw [startFrame_eq]
  split
  · exact ⟨_, _, rfl⟩
  · split <;> exact ⟨_, _, rfl⟩

theorem emitHeader_pls (w : List Cplx) (ws : List Idx) (s : State) :
    (emitHeader w ws s).pls =
      { s.pls with outq := s.pls.outq ++ headerItems w ws s.pls.epoch s.pls.fid s.pls.curPls } := by
  rw [emitHeader_eq]

theorem headerItems_length (w : List Cplx) (ws : List Idx) (ep fid : BitVec 32) (p : BitVec 7) :
    (headerItems w ws ep fid p).length = 90 := by
  simp [headerItems]

/-- In lock the invariant does not depend on the frame number, on forwarding, or on what is staged within its bound. -/
theorem plsInv_of_locked {s t : State} (h : PlsInv s) (locked : s.pls.state = .locked) {fwd : Bool} {fid : BitVec 32}
    {q : List Item45} (same : t.pls = { s.pls with fwd := fwd, fid := fid, outq := q }) (staged : q.length ≤ 91) :
    PlsInv t := by
  have relabelled : PlsInv { s with pls := { s.pls with fwd := fwd, fid := fid, outq := q } } :=
    { h with staged := staged, idle := fun lost => absurd locked lost }
  exact plsInv_congr relabelled (by simp [syncView, same])

/-- Between steps, with the staging queue empty: what a process step starts from. -/
structure Ready (s : State) : Prop where
  inv : PlsInv s
  unstaged : s.pls.outq = []

/-- A locked window whose next frame is not counted yet: what the end of a frame leaves to CHECK. -/
structure Tracking (s : State) : Prop where
  window : s.pls.w.length = 90
  tags : s.pls.wsmp.length = 90
  filled : s.pls.fill ≤ 90
  locked : s.pls.state = .locked
  confirmed : s.pls.pend = none
  known : supported s.pls.curPls = true
  unstaged : s.pls.outq = []

theorem Tracking.ready {s : State} (h : Tracking s) (len : s.pls.curLen = frameLen s.pls.curPls) (pos : 1 ≤ s.pls.cnt)
    (within : s.pls.cnt ≤ s.pls.curLen) : Ready s where
  inv :=
    { window := h.window
      tags := h.tags
      filled := h.filled
      staged := by simp [h.unstaged]
      pendState := by simp [h.confirmed, h.locked]
      held := by simp [h.confirmed]
      tracking := fun _ => ⟨h.known, len, pos, within⟩
      idle := fun lost => absurd h.locked lost }
  unstaged := h.unstaged

theorem Ready.tracking {s : State} (h : Ready s) (locked : s.pls.state = .locked) : Tracking s where
  window := h.inv.window
  tags := h.inv.tags
  filled := h.inv.filled
  locked := locked
  confirmed := by
    have waiting := h.inv.pendState
    cases pend : s.pls.pend <;> simp_all
  known := (h.inv.tracking locked).1
  unstaged := h.unstaged

/-! Losing lock (R529, R530). -/

theorem enterSearch_ready {s : State} (unstaged : s.pls.outq = []) : Ready (enterSearch s) where
  inv :=
    { window := rfl
      tags := rfl
      filled := Nat.zero_le _
      staged := by simp [enterSearch, irqSet, unstaged]
      pendState := by simp [enterSearch, irqSet]
      held := nofun
      tracking := nofun
      idle := fun _ => ⟨rfl, rfl, rfl, rfl, rfl, rfl⟩ }
  unstaged := unstaged

theorem leaveLock_ready {s : State} (h : Ready s) : Ready (leaveLock s) := by
  unfold leaveLock
  split
  · exact h
  · exact enterSearch_ready h.unstaged

theorem hostForce_ready {s : State} (h : Ready s) : Ready (hostForce s) := by
  unfold hostForce
  split
  · exact leaveLock_ready ⟨plsInv_congr h.inv rfl, h.unstaged⟩
  · exact h

theorem carrierForce_ready {s : State} (h : Ready s) : Ready (carrierForce s) := by
  have cleared : Ready { s with pls := { s.pls with cforce := false } } := ⟨plsInv_congr h.inv rfl, h.unstaged⟩
  unfold carrierForce
  split
  · split
    · exact leaveLock_ready cleared
    · exact cleared
  · exact h

/-! The window (R521, R522). -/

theorem countSymbol_ready {s : State} (h : Ready s) : Ready (countSymbol s) := ⟨plsInv_congr h.inv rfl, h.unstaged⟩

theorem slide_ready (y : Cplx) (smp : Idx) {s : State} (h : Ready s) : Ready (slide y smp s) where
  inv :=
    { h.inv with
      window := slide_window_length y smp s h.inv.window
      tags := by simp [h.inv.tags]
      filled := Nat.min_le_right _ _ }
  unstaged := h.unstaged

/-! The three states' steps (R523 to R527). -/

/-- A detection is held with its window and its decode (R523). -/
theorem searchStep_inv (idx : Idx) {s : State} (h : PlsInv s) (searching : s.pls.state = .searching) :
    PlsInv (searchStep idx s) := by
  unfold searchStep
  split
  · dsimp only
    split
    · exact
        { h with
          pendState := ⟨fun _ => rfl, fun _ => rfl⟩
          held := by
            rintro d ⟨⟩
            exact ⟨h.window, h.tags, supported_of_decideWord_ok _ _⟩
          tracking := nofun
          idle := fun _ => h.idle (by simp [searching]) }
    · exact plsInv_congr h rfl
  · exact h

theorem enterLock_pls (d : Pend) (s : State) :
    ∃ fwd fid, (enterLock d s).pls =
      { s.pls with
        state := .locked
        curPls := d.dec.pls
        curLen := frameLen d.dec.pls
        cnt := frameLen d.dec.pls - 1
        miss := 0#8
        mm := 0#8
        fwd := fwd
        fid := fid } := startFrame_pls _ _

/-- The lock of R525 tracks the decoded frame, one symbol of it gone. -/
theorem enterLock_ready {s : State} (h : Ready s) {d : Pend} (known : supported d.dec.pls = true) :
    (clearPend (enterLock d s)).pls.state = .locked ∧ Ready (clearPend (enterLock d s)) := by
  obtain ⟨fwd, fid, same⟩ := enterLock_pls d s
  have long := header_le_frameLen d.dec.pls
  have tracking : Tracking (clearPend (enterLock d s)) := by
    constructor <;> simp only [clearPend_pls, same]
    exacts [h.inv.window, h.inv.tags, h.inv.filled, known, h.unstaged]
  refine ⟨tracking.locked, tracking.ready ?_ ?_ ?_⟩ <;> simp only [clearPend_pls, same] <;> omega

theorem confirmStep_inv (y : Cplx) (smp idx : Idx) {s : State} (h : Ready s) (found : s.pls.state = .headerFound) :
    PlsInv (confirmStep y smp idx s) := by
  have idle := h.inv.idle (by simp [found])
  unfold confirmStep
  split
  · next empty => simpa [empty] using h.inv.pendState.mpr found
  · next d held =>
    obtain ⟨window, tags, accepted⟩ := h.inv.held d held
    split
    · next ok =>
      obtain ⟨locked, ready⟩ := enterLock_ready h (accepted ok)
      have unstaged : (enterLock d s).pls.outq = [] := ready.unstaged
      dsimp only
      split
      · refine plsInv_of_locked ready.inv locked (by rw [clearPend_pls, emit_pls, emitHeader_pls]; rfl) ?_
        simp [unstaged, headerItems_length]
      · exact ready.inv
    · refine searchStep_inv idx ?_ rfl
      exact { h.inv with pendState := ⟨nofun, nofun⟩, held := nofun, tracking := nofun, idle := fun _ => idle }

/-- The value the next frame is tracked with is supported: an accepted decode, or the one tracked before (R527). -/
theorem trackedPls_supported {s : State} (h : Tracking s) : supported (trackedPls (checkHeader s)) = true := by
  unfold trackedPls
  split
  · next ok => exact supported_of_decideWord_ok _ _ ok
  · exact h.known

theorem acceptHeader_inv (p : BitVec 7) (idx : Idx) {s : State} (h : Ready s) (locked : s.pls.state = .locked) :
    PlsInv (acceptHeader p idx s) := by
  obtain ⟨fwd, fid, same⟩ := startFrame_pls p (lastHdr (idx - 89#64) (s.pls.wsmp.getD 0 0#64) s)
  unfold acceptHeader
  dsimp only
  split
  · refine plsInv_of_locked h.inv locked (by rw [emitHeader_pls, same, lastHdr_pls]) ?_
    simp [h.unstaged, headerItems_length]
  · exact plsInv_of_locked h.inv locked same h.inv.staged

theorem failHeader_inv (p : BitVec 7) {s : State} (h : PlsInv s) (locked : s.pls.state = .locked) :
    PlsInv (failHeader p s) := by
  unfold failHeader
  dsimp only
  split <;> exact plsInv_of_locked h locked rfl h.staged

theorem checkHeader_tracking {s : State} (h : Tracking s) : Tracking (checkHeader s) := { h with }

/-- The next frame is counted from its whole length (R527). -/
theorem trackFrame_ready {s : State} (h : Tracking s) {p : BitVec 7} (known : supported p = true) :
    Ready (trackFrame p s) :=
  Tracking.ready { h with known := known } rfl (le_trans (by decide) (header_le_frameLen p)) le_rfl

/-- CHECK counts the next frame anew, or loses lock (R527). -/
theorem check_inv (idx : Idx) {s : State} (h : Tracking s) : PlsInv (check idx s) := by
  have known := trackedPls_supported h
  have checked := checkHeader_tracking h
  unfold check
  dsimp only
  generalize checkHeader s = t at known checked
  split
  · exact (enterSearch_ready checked.unstaged).inv
  · have tracked := trackFrame_ready checked known
    split
    · exact acceptHeader_inv _ idx tracked checked.locked
    · exact failHeader_inv _ tracked.inv checked.locked

theorem trackStep_inv (y : Cplx) (smp idx : Idx) {s : State} (h : Ready s) (locked : s.pls.state = .locked) :
    PlsInv (trackStep y smp idx s) := by
  obtain ⟨known, len, -, within⟩ := h.inv.tracking locked
  have counted (pos : 1 ≤ s.pls.cnt - 1) : PlsInv { s with pls := { s.pls with cnt := s.pls.cnt - 1 } } :=
    { h.inv with
      tracking := fun _ => ⟨known, len, pos, le_trans (Nat.sub_le _ _) within⟩
      idle := fun lost => absurd locked lost }
  unfold trackStep
  dsimp only
  split
  · next inside =>
    have inv := counted (le_trans (by decide) inside)
    split
    · exact plsInv_of_locked inv locked rfl (by simp [h.unstaged])
    · exact inv
  · split
    · exact check_inv idx { h.tracking locked with }
    · next later => exact counted (Nat.one_le_iff_ne_zero.mpr later)

theorem plsProcess_inv (it : Item34) {s : State} (h : Ready s) : PlsInv (plsProcess it s) := by
  have ready : Ready (slide it.y it.smp (countSymbol (forceCheck s))) :=
    slide_ready it.y it.smp (countSymbol_ready (carrierForce_ready (hostForce_ready h)))
  unfold plsProcess plsCase
  dsimp only
  split
  · next searching => exact searchStep_inv _ ready.inv searching
  · next found => exact confirmStep_inv it.y it.smp _ ready found
  · next locked => exact trackStep_inv it.y it.smp _ ready locked

/-! Every other step leaves the synchroniser. -/

theorem resetUnits_plsInv (s : State) : PlsInv (resetUnits s) where
  window := rfl
  tags := rfl
  filled := Nat.zero_le _
  staged := Nat.zero_le _
  pendState := ⟨nofun, nofun⟩
  held := nofun
  tracking := nofun
  idle := fun _ => ⟨rfl, rfl, rfl, rfl, rfl, rfl⟩

theorem raiseNumIf_pls (b : Bool) (u : NumUnit) (s : State) : (raiseNumIf b u s).pls = s.pls := by
  cases b <;> rfl

theorem strLoop_pls (y : List Cplx) (smp : Idx) (k : Nat) (s : State) : (strLoop y smp k s).pls = s.pls :=
  strLoop_induction (P := fun t => t.pls = s.pls) y smp (fun _ h => h) (fun _ h => (raiseNumIf_pls _ .str _).trans h) k s rfl

theorem plsInv_of_pls {s t : State} (h : PlsInv s) (same : t.pls = s.pls) : PlsInv t :=
  plsInv_congr h (by simp [syncView, same])

theorem csrWriteEffect_pls (r : Csr) (w : BitVec 32) (s : State) : (csrWriteEffect s r w).pls = s.pls := by
  unfold csrWriteEffect
  split <;> rfl

/-- A drain step takes a staged symbol at most (R110). -/
theorem drainStep_inv (g : Group) {s : State} (h : PlsInv s) : PlsInv (drainStep g s) := by
  cases g with
  | pls =>
    simp only [drainStep, drainPls]
    split
    · exact h
    · next it rest queue =>
      split
      · exact { h with staged := rest_length_le h.staged queue }
      · exact h
  | agc | mf | str | cpr | dsc =>
    simp only [drainStep, drainAgc, drainMf, drainStr, drainCpr, drainDsc]
    repeat' split
    all_goals exact plsInv_congr h rfl

theorem effect_plsInv {s t : State} (effect : Effect s t) (h : PlsInv s) : PlsInv t := by
  cases effect with
  | softReset => exact plsInv_of_pls (resetUnits_plsInv s) rfl
  | read r => exact plsInv_congr h (by cases r <;> rfl)
  | write r w => exact plsInv_of_pls h (csrWriteEffect_pls r w s)
  | agcStep x rest _ _ => exact plsInv_of_pls h (raiseNumIf_pls _ .agc _)
  | mfStep it rest _ _ => exact plsInv_of_pls h (raiseNumIf_pls _ .mf _)
  | strStep it rest _ _ => exact plsInv_of_pls h (strLoop_pls it.y it.smp 3 _)
  | plsStep it rest _ unstaged => exact plsProcess_inv it ⟨plsInv_congr h rfl, unstaged⟩
  | cprStep it rest _ _ => exact plsInv_congr (plsInv_congr h rfl) (cprProcess_carrier it _).sync
  | dscStep it rest _ _ => cases it <;> exact plsInv_congr h rfl
  | mix z pos => exact plsInv_congr h (mixSymbol_carrier z pos s).sync
  | pilotSymbol blk o s1 => exact plsInv_congr h (pilotSymbol_carrier blk o s1 s).sync
  | drain g => exact drainStep_inv g h
  | none | nop | reject | start | stop | forceSearch | clearCounters | refusedRead | refusedWrite | beatTaken | beatKept
  | beatOut | noBeat | hdrTest | hdrDecode | freqUpdate | phaseRef => exact plsInv_congr h rfl

/-- An admitted COMMIT resets the synchroniser or leaves it (R221). -/
theorem commitEffect_plsInv {s : State} (h : PlsInv s) : PlsInv (commitEffect s) := by
  unfold commitEffect
  split
  · exact resetUnits_plsInv _
  · exact plsInv_congr h rfl

/-- Settles O58, by the inversion of a step (`agentStep_cases`); the work is PLS_STEP's, `plsProcess_inv`. -/
theorem stepKeepsSynchroniser : Obligations.StepKeepsSynchroniser := by
  intro s t h next
  obtain rfl | ⟨a, rest, -, next⟩ := step_cases next
  · exact h
  · have h : PlsInv { s with agenda := rest } := plsInv_congr h rfl
    obtain ⟨-, rfl⟩ | ⟨-, -, rfl⟩ | effect := agentStep_cases next
    · exact plsInv_of_pls (resetUnits_plsInv s) rfl
    · exact plsInv_of_pls (commitEffect_plsInv h) (answerOkay_pls _)
    · exact effect_plsInv effect h

end Sys2Proof.Sync

namespace Sys2Proof.Registers

open Sys2Proof.Machine Sys2Proof.Laws

/-! ## Reads and writes of the window (R32, R200, R201) -/

theorem exec_read (s : State) (r : Csr) :
    exec (.csrRead (csrOffset r) 4) s =
      .next { csrReadEffect s r with port := { s.port with bus := ⟨true, csrValue s r⟩ } } := by
  simp only [exec, execCsrRead, admitted_csrOffset]

theorem exec_write (s : State) {r : Csr} (w : BitVec 32) (h : r ≠ .cmd) :
    exec (.csrWrite (csrOffset r) 4 w) s = .next (answerOkay (csrWriteEffect s r w)) := by
  simp only [exec, execCsrWrite, admitted_csrOffset]

/-- A read-only register ignores a write (R32). -/
theorem csrWriteEffect_ro {r : Csr} (ro : csrAccess r = .ro) (s : State) (w : BitVec 32) : csrWriteEffect s r w = s := by
  cases r with
  | cmd | irqStatus | numEvt | irqEnable | tapIndex | agcGain | agcRate | agcRef | agcGmin | agcGmax | rrcRolloff | rrcDelay
  | rrcNfilts | sps | symRate | strDamping | strLoopBw | strTedGain | strMaxDev | modcod | frameSize | goldCode
  | plFreqEstPeriod | syncCtrl | corrThresh | lockLossN | plscMmN | plscMaxDist | pilotThresh => cases ro
  | _ => rfl

/-- The registers a write reaches one by one: those of R43 take it in the shadow copy. -/
theorem csrWriteEffect_rw {r : Csr} (rw : csrAccess r = .rw) (s : State) (w : BitVec 32) :
    csrWriteEffect s r w =
      if r = .irqEnable then { s with ctl := { s.ctl with irqEnable := w.setWidth 10 } }
      else if r = .tapIndex then { s with ctl := { s.ctl with tapIndex := w.setWidth 17 } }
      else { s with shadow := writeCfg s.shadow w r } := by
  unfold csrWriteEffect
  split
  · cases rw
  · cases rw
  · rfl
  · rfl
  · next enable index => rw [if_neg enable, if_neg index]

/-- A write to a configuration register sets its own field of the copy (R34, R43). -/
theorem writeCfg_eq (c : Cfg) (w : BitVec 32) (r : Csr) :
    writeCfg c w r =
      { agcGain := if r = .agcGain then w else c.agcGain
        agcRate := if r = .agcRate then w else c.agcRate
        agcRef := if r = .agcRef then w else c.agcRef
        agcGmin := if r = .agcGmin then w else c.agcGmin
        agcGmax := if r = .agcGmax then w else c.agcGmax
        rrcRolloff := if r = .rrcRolloff then w else c.rrcRolloff
        rrcDelay := if r = .rrcDelay then w.setWidth 8 else c.rrcDelay
        rrcNfilts := if r = .rrcNfilts then w.setWidth 10 else c.rrcNfilts
        sps := if r = .sps then w else c.sps
        symRate := if r = .symRate then w else c.symRate
        strDamping := if r = .strDamping then w else c.strDamping
        strLoopBw := if r = .strLoopBw then w else c.strLoopBw
        strTedGain := if r = .strTedGain then w else c.strTedGain
        strMaxDev := if r = .strMaxDev then w else c.strMaxDev
        modcod := if r = .modcod then w.setWidth 5 else c.modcod
        frameSize := if r = .frameSize then w.setWidth 1 else c.frameSize
        goldCode := if r = .goldCode then w.setWidth 18 else c.goldCode
        plFreqEstPeriod := if r = .plFreqEstPeriod then w.setWidth 16 else c.plFreqEstPeriod
        syncCtrl := if r = .syncCtrl then w.setWidth 2 else c.syncCtrl
        corrThresh := if r = .corrThresh then w else c.corrThresh
        lockLossN := if r = .lockLossN then w.setWidth 8 else c.lockLossN
        plscMmN := if r = .plscMmN then w.setWidth 8 else c.plscMmN
        plscMaxDist := if r = .plscMaxDist then w.setWidth 6 else c.plscMaxDist
        pilotThresh := if r = .pilotThresh then w else c.pilotThresh } := by
  cases r <;> rfl

/-! ## Field bits and reserved bits (R32, R37 to R49) -/

theorem setWidth_setWidth_eq_and (n : Nat) (w : BitVec 32) :
    (w.setWidth n).setWidth 32 = w &&& (BitVec.allOnes n).setWidth 32 := by
  ext i hi
  simp [BitVec.getLsbD_eq_getElem hi, Bool.and_comm]

theorem setWidth_and_not_mask {n : Nat} (v : BitVec n) :
    v.setWidth 32 &&& ~~~((BitVec.allOnes n).setWidth 32) = 0#32 := by
  ext i hi
  simpa using BitVec.lt_of_getLsbD

theorem setWidth_eq_zero_append (m n : Nat) (v : BitVec n) : v.setWidth (m + n) = 0#m ++ v := by
  ext i hi
  rw [BitVec.getElem_setWidth, BitVec.getElem_append]
  split
  · next low => exact BitVec.getLsbD_eq_getElem low
  · next high => simp [BitVec.getLsbD_of_ge v i (not_lt.mp high)]

theorem statusWord_reserved (s : State) : statusWord s &&& ~~~0x000000FF#32 = 0#32 := by
  have fields (o i f g v r : BitVec 1) (y : BitVec 2) :
      (0#24 ++ o ++ i ++ f ++ g ++ v ++ r ++ y)
        &&& (BitVec.allOnes 24 ++ 0#1 ++ 0#1 ++ 0#1 ++ 0#1 ++ 0#1 ++ 0#1 ++ 0#2) =
        0#24 ++ 0#1 ++ 0#1 ++ 0#1 ++ 0#1 ++ 0#1 ++ 0#1 ++ 0#2 := by
    simp only [BitVec.and_append, BitVec.zero_and, BitVec.and_zero]
  exact fields ..

theorem cmdErrInfo_reserved (s : State) : csrValue s .cmdErrInfo &&& ~~~0x000003FF#32 = 0#32 := by
  have fields (reason : BitVec 2) (op : BitVec 8) :
      (0#22 ++ reason ++ op) &&& (BitVec.allOnes 22 ++ 0#2 ++ 0#8) = 0#22 ++ 0#2 ++ 0#8 := by
    simp only [BitVec.and_append, BitVec.zero_and, BitVec.and_zero]
  exact fields ..

theorem lastPls_reserved (s : State) : csrValue s .lastPls &&& ~~~0x00007F7F#32 = 0#32 := by
  have fields (dist pls : BitVec 7) :
      (0#17 ++ dist ++ 0#1 ++ pls) &&& (BitVec.allOnes 17 ++ 0#7 ++ 1#1 ++ 0#7) = 0#17 ++ 0#7 ++ 0#1 ++ 0#7 := by
    simp only [BitVec.and_append, BitVec.zero_and, BitVec.and_zero]
  exact fields ..

theorem tapCount_reserved (s : State) : csrValue s .tapCount &&& ~~~0x0001FFFF#32 = 0#32 := by
  simp only [csrValue, whenValid]
  split
  · exact setWidth_and_not_mask (BitVec.ofNat 17 s.act.l)
  · exact BitVec.zero_and

/-- Reserved bits read 0: every register shows its fields beside them, and the full words have none (R32). -/
theorem csrValue_reserved (s : State) (r : Csr) : csrValue s r &&& ~~~fieldMask r = 0#32 := by
  cases r with
  | status => exact statusWord_reserved s
  | cmdErrInfo => exact cmdErrInfo_reserved s
  | lastPls => exact lastPls_reserved s
  | tapCount => exact tapCount_reserved s
  | cfgErr | irqStatus | irqEnable | numEvt | frameLen | tapIndex | rrcDelay | rrcNfilts | modcod | frameSize | goldCode
  | plFreqEstPeriod | syncCtrl | lockLossN | plscMmN | plscMaxDist => exact setWidth_and_not_mask _
  | _ => exact BitVec.and_zero

/-! ## Read-write registers (R38 to R43, R49) -/

/-- A configuration register reads back the write's field bits. -/
theorem csrValue_writeCfg_self {r : Csr} (rw : csrAccess r = .rw) (enable : r ≠ .irqEnable) (index : r ≠ .tapIndex)
    (s : State) (w : BitVec 32) : csrValue { s with shadow := writeCfg s.shadow w r } r = w &&& fieldMask r := by
  cases r with
  | irqEnable => exact absurd rfl enable
  | tapIndex => exact absurd rfl index
  | rrcDelay | rrcNfilts | modcod | frameSize | goldCode | plFreqEstPeriod | syncCtrl | lockLossN | plscMmN | plscMaxDist =>
    exact setWidth_setWidth_eq_and _ w
  | agcGain | agcRate | agcRef | agcGmin | agcGmax | rrcRolloff | sps | symRate | strDamping | strLoopBw | strTedGain
  | strMaxDev | corrThresh | pilotThresh => exact BitVec.and_allOnes.symm
  | _ => cases rw

/-- The other registers do not show it. -/
theorem csrValue_writeCfg_ne {r r' : Csr} (h : r' ≠ r) (s : State) (w : BitVec 32) :
    csrValue { s with shadow := writeCfg s.shadow w r } r' = csrValue s r' := by
  rw [writeCfg_eq]
  cases r' with
  | agcGain | agcRate | agcRef | agcGmin | agcGmax | rrcRolloff | rrcDelay | rrcNfilts | sps | symRate | strDamping
  | strLoopBw | strTedGain | strMaxDev | modcod | frameSize | goldCode | plFreqEstPeriod | syncCtrl | corrThresh | lockLossN
  | plscMmN | plscMaxDist | pilotThresh => simp only [csrValue, if_neg h.symm]
  | _ => rfl

theorem csrValue_irqEnable_ne {r : Csr} (h : r ≠ .irqEnable) (s : State) (v : BitVec 10) :
    csrValue { s with ctl := { s.ctl with irqEnable := v } } r = csrValue s r := by
  cases r with
  | irqEnable => exact absurd rfl h
  | _ => rfl

/-- `TAP_DATA` shows the coefficient `TAP_INDEX` names (R49). -/
theorem csrValue_tapIndex_ne {r : Csr} (h : r ≠ .tapIndex) (data : r ≠ .tapData) (s : State) (v : BitVec 17) :
    csrValue { s with ctl := { s.ctl with tapIndex := v } } r = csrValue s r := by
  cases r with
  | tapIndex => exact absurd rfl h
  | tapData => exact absurd rfl data
  | _ => rfl

/-- The answer of a write is no register. -/
theorem csrValue_answerOkay (s : State) (r : Csr) : csrValue (answerOkay s) r = csrValue s r := by
  cases r <;> rfl

/-- A write to a read-write register: it takes the field bits, and no other register changes. -/
theorem write_rw {r : Csr} (rw : csrAccess r = .rw) (s : State) (w : BitVec 32) :
    csrValue (csrWriteEffect s r w) r = w &&& fieldMask r
      ∧ (∀ r', r' ≠ r → (r' = .tapData → r ≠ .tapIndex) → csrValue (csrWriteEffect s r w) r' = csrValue s r') := by
  rw [csrWriteEffect_rw rw]
  split
  · next enable =>
    subst enable
    exact ⟨setWidth_setWidth_eq_and 10 w, fun r' ne _ => csrValue_irqEnable_ne ne s _⟩
  · next enable =>
    split
    · next index =>
      subst index
      exact ⟨setWidth_setWidth_eq_and 17 w, fun r' ne data => csrValue_tapIndex_ne ne (fun h => data h rfl) s _⟩
    · next index =>
      exact ⟨csrValue_writeCfg_self rw enable index s w, fun r' ne _ => csrValue_writeCfg_ne ne s w⟩

/-- The frame of a write to a read-write register. -/
theorem write_rw_frame {r : Csr} (rw : csrAccess r = .rw) (s : State) (w : BitVec 32) :
    csrWriteEffect s r w =
      { s with
        shadow := (csrWriteEffect s r w).shadow
        ctl := { s.ctl with
          irqEnable := (csrWriteEffect s r w).ctl.irqEnable
          tapIndex := (csrWriteEffect s r w).ctl.tapIndex } } := by
  rw [csrWriteEffect_rw rw]
  repeat' split
  all_goals rfl

/-- Settles O9: the access types by cases on the register; a write by its access type (`csrWriteEffect_ro`, `write_rw`,
`write_rw_frame`); reserved bits by `csrValue_reserved`. -/
theorem accessTypes : Obligations.AccessTypes := by
  have notCmd {r : Csr} {a : Access} (h : csrAccess r = a) (other : a ≠ .wo) : r ≠ .cmd := by
    rintro rfl
    exact other h.symm
  refine ⟨?_, fun s r w ro => ?_, fun s r w rw => ?_, fun s w => ⟨?_, ?_⟩, fun s => ⟨?_, ?_⟩, fun s => ?_,
    csrValue_reserved⟩
  · intro r
    cases r <;> rfl
  · rw [exec_write s w (notCmd ro nofun), csrWriteEffect_ro ro]
    rfl
  · refine ⟨_, exec_write s w (notCmd rw nofun), ?_, fun r' ne data => ?_, ?_⟩
    · rw [csrValue_answerOkay, (write_rw rw s w).1]
    · rw [csrValue_answerOkay, (write_rw rw s w).2 r' ne data]
    · rw [write_rw_frame rw]
      rfl
  · exact exec_write s w (r := .irqStatus) nofun
  · exact exec_write s w (r := .numEvt) nofun
  · exact ⟨_, exec_read s .irqStatus, congrArg (BusResp.mk true) (setWidth_eq_zero_append 22 10 _)⟩
  · exact ⟨_, exec_read s .numEvt, congrArg (BusResp.mk true) (setWidth_eq_zero_append 22 10 _)⟩
  · exact exec_read s .cmd

end Sys2Proof.Registers

namespace Sys2Proof.Shadow

open Sys2Proof.Machine Sys2Proof.Laws

/-! ## The units do not read the shadow copy (R34) -/

/-- The state with another shadow configuration. -/
def reshadow (c : Cfg) (s : State) : State := { s with shadow := c }

@[simp] theorem reshadow_agc (c : Cfg) (s : State) : (reshadow c s).agc = s.agc := rfl
@[simp] theorem reshadow_mf (c : Cfg) (s : State) : (reshadow c s).mf = s.mf := rfl
@[simp] theorem reshadow_str (c : Cfg) (s : State) : (reshadow c s).str = s.str := rfl
@[simp] theorem reshadow_pls (c : Cfg) (s : State) : (reshadow c s).pls = s.pls := rfl
@[simp] theorem reshadow_cpr (c : Cfg) (s : State) : (reshadow c s).cpr = s.cpr := rfl
@[simp] theorem reshadow_fifo (c : Cfg) (s : State) : (reshadow c s).fifo = s.fifo := rfl

/-- The operation does the same whatever the shadow copy holds, and does not write it. -/
def IgnoresShadow (f : State → State) : Prop := ∀ (c : Cfg) (s : State), f (reshadow c s) = reshadow c (f s)

namespace IgnoresShadow

theorem comp {f g : State → State} (hf : IgnoresShadow f) (hg : IgnoresShadow g) : IgnoresShadow (fun s => g (f s)) :=
  fun c s => (congrArg g (hf c s)).trans (hg c (f s))

/-- The operation on an updated state. -/
theorem after {f g : State → State} (hg : IgnoresShadow g) (hf : IgnoresShadow f) : IgnoresShadow (fun s => g (f s)) :=
  hf.comp hg

/-- A branch on what the shadow copy does not decide. -/
theorem ite {p : State → Prop} [∀ s, Decidable (p s)] {f g : State → State} (hp : ∀ c s, p (reshadow c s) ↔ p s)
    (hf : IgnoresShadow f) (hg : IgnoresShadow g) : IgnoresShadow (fun s => if p s then f s else g s) := by
  intro c s
  by_cases h : p s
  · simp only [if_pos h, if_pos ((hp c s).mpr h), hf c s]
  · simp only [if_neg h, if_neg (mt (hp c s).mp h), hg c s]

/-- An operand drawn from what is no shadow register. -/
theorem operand {α : Type} {a : State → α} {f : α → State → State} (ha : ∀ c s, a (reshadow c s) = a s)
    (hf : ∀ x, IgnoresShadow (f x)) : IgnoresShadow (fun s => f (a s) s) :=
  fun c s => (congrArg (f · (reshadow c s)) (ha c s)).trans (hf (a s) c s)

end IgnoresShadow

theorem raiseNumIf_ignores {clipped : State → Bool} {u : NumUnit} {f : State → State}
    (hc : ∀ c s, clipped (reshadow c s) = clipped s) (hf : IgnoresShadow f) :
    IgnoresShadow (fun s => raiseNumIf (clipped s) u (f s)) :=
  .operand hc fun b => .after (g := raiseNumIf b u) (by cases b <;> exact fun _ _ => rfl) hf

/-! The front end (R300 to R409). -/

theorem agcProcess_ignores (x : Cplx) : IgnoresShadow (agcProcess x) :=
  raiseNumIf_ignores (fun _ _ => rfl) fun _ _ => rfl

theorem mfProcess_ignores (it : Item12) : IgnoresShadow (mfProcess it) :=
  raiseNumIf_ignores (fun _ _ => rfl) fun _ _ => rfl

theorem midpoint_ignores (y : List Cplx) : IgnoresShadow (midpoint y) := fun _ _ => rfl

theorem strobe_ignores (y : List Cplx) (smp : Idx) : IgnoresShadow (strobe y smp) :=
  raiseNumIf_ignores (fun _ _ => rfl) fun _ _ => rfl

theorem strLoop_ignores (y : List Cplx) (smp : Idx) (k : Nat) : IgnoresShadow (strLoop y smp k) := by
  induction k with
  | zero => exact fun _ _ => rfl
  | succ k ih =>
    exact .ite (fun _ _ => Iff.rfl) ((midpoint_ignores y).comp ih)
      (.ite (fun _ _ => Iff.rfl) ((strobe_ignores y smp).comp ih) fun _ _ => rfl)

theorem strProcess_ignores (it : Item23) : IgnoresShadow (strProcess it) :=
  (strLoop_ignores it.y it.smp 3).comp fun _ _ => rfl

/-! The synchroniser (R508 to R537). -/

theorem leaveLock_ignores : IgnoresShadow leaveLock :=
  .ite (fun _ _ => Iff.rfl) (fun _ _ => rfl) fun _ _ => rfl

theorem hostForce_ignores : IgnoresShadow hostForce :=
  .ite (fun _ _ => Iff.rfl) (leaveLock_ignores.after fun _ _ => rfl) fun _ _ => rfl

theorem carrierForce_ignores : IgnoresShadow carrierForce :=
  .ite (fun _ _ => Iff.rfl) (.ite (fun _ _ => Iff.rfl) (leaveLock_ignores.after fun _ _ => rfl) fun _ _ => rfl) fun _ _ => rfl

theorem startFrame_ignores (p : BitVec 7) : IgnoresShadow (startFrame p) :=
  .ite (fun _ _ => Iff.rfl) (fun _ _ => rfl) (.ite (fun _ _ => Iff.rfl) (fun _ _ => rfl) fun _ _ => rfl)

theorem emitHeader_ignores (w : List Cplx) (ws : List Idx) : IgnoresShadow (emitHeader w ws) := by
  intro c s
  rw [emitHeader_eq, emitHeader_eq]
  rfl

theorem searchStep_ignores (idx : Idx) : IgnoresShadow (searchStep idx) :=
  .ite (fun _ _ => Iff.rfl) (.ite (p := fun s => (hdrTest s).pls.hit = true) (fun _ _ => Iff.rfl) (fun _ _ => rfl) fun _ _ => rfl)
    fun _ _ => rfl

theorem enterLock_ignores (d : Pend) : IgnoresShadow (enterLock d) :=
  (startFrame_ignores d.dec.pls).after fun _ _ => rfl

/-- An accepted header's symbols are staged when its frame is forwarded. -/
theorem stageIfForwarded_ignores {f : State → State} (hf : IgnoresShadow f) :
    IgnoresShadow (fun t => if t.pls.fwd then f t else t) :=
  .ite (fun _ _ => Iff.rfl) hf fun _ _ => rfl

theorem confirmStep_ignores (y : Cplx) (smp idx : Idx) : IgnoresShadow (confirmStep y smp idx) := by
  intro c s
  unfold confirmStep
  rw [reshadow_pls]
  split
  · exact (searchStep_ignores idx).after (f := fun s => { s with pls := { s.pls with state := .searching } })
      (fun _ _ => rfl) c s
  · next d _ =>
    split
    · exact ((enterLock_ignores d).comp ((stageIfForwarded_ignores
        ((emitHeader_ignores d.w d.wsmp).comp (g := emit y smp 90) fun _ _ => rfl)).comp (g := clearPend) fun _ _ => rfl)) c s
    · exact (searchStep_ignores idx).after
        (f := fun s => { s with pls := { s.pls with state := .searching, pend := none } }) (fun _ _ => rfl) c s

theorem acceptHeader_ignores (p : BitVec 7) (idx : Idx) : IgnoresShadow (acceptHeader p idx) := by
  have started (smp0 : Idx) : IgnoresShadow (fun s => startFrame p (lastHdr (idx - 89#64) smp0 s)) :=
    (startFrame_ignores p).after fun _ _ => rfl
  have staged : IgnoresShadow (fun t => emitHeader t.pls.w t.pls.wsmp t) :=
    fun c t => emitHeader_ignores t.pls.w t.pls.wsmp c t
  exact .operand (a := fun s => s.pls.wsmp.getD 0 0#64) (fun _ _ => rfl) fun smp0 =>
    (started smp0).comp (stageIfForwarded_ignores staged)

theorem failHeader_ignores (p : BitVec 7) : IgnoresShadow (failHeader p) :=
  .ite (p := fun _ => modcodOf p = 0) (fun _ _ => Iff.rfl) (fun _ _ => rfl) fun _ _ => rfl

theorem check_ignores (idx : Idx) : IgnoresShadow (check idx) := by
  have followed (p : BitVec 7) : IgnoresShadow (fun t =>
      if t.pls.hit && t.pls.dec.ok then acceptHeader p idx (trackFrame p t) else failHeader p (trackFrame p t)) :=
    .ite (fun _ _ => Iff.rfl) ((acceptHeader_ignores p idx).after fun _ _ => rfl) ((failHeader_ignores p).after fun _ _ => rfl)
  have checked : IgnoresShadow checkHeader := fun _ _ => rfl
  have settled := IgnoresShadow.ite (p := fun t => lockIsLost t = true) (f := enterSearch) (fun _ _ => Iff.rfl) (fun _ _ => rfl)
    (.operand (a := trackedPls) (fun _ _ => rfl) followed)
  exact checked.comp settled

theorem trackStep_ignores (y : Cplx) (smp idx : Idx) : IgnoresShadow (trackStep y smp idx) := by
  have counted : IgnoresShadow (fun s => { s with pls := { s.pls with cnt := s.pls.cnt - 1 } }) := fun _ _ => rfl
  have followed : IgnoresShadow (fun t =>
      if 90 ≤ t.pls.cnt then (if t.pls.fwd then emit y smp (t.pls.curLen + 89 - t.pls.cnt) t else t)
      else if t.pls.cnt = 0 then check idx t else t) :=
    .ite (fun _ _ => Iff.rfl) (.ite (fun _ _ => Iff.rfl) (fun _ _ => rfl) fun _ _ => rfl)
      (.ite (fun _ _ => Iff.rfl) (check_ignores idx) fun _ _ => rfl)
  exact counted.comp followed

theorem plsCase_ignores (it : Item34) (idx : Idx) : IgnoresShadow (plsCase it idx) := by
  intro c s
  unfold plsCase
  rw [reshadow_pls]
  split
  · exact searchStep_ignores idx c s
  · exact confirmStep_ignores it.y it.smp idx c s
  · exact trackStep_ignores it.y it.smp idx c s

theorem plsProcess_ignores (it : Item34) : IgnoresShadow (plsProcess it) := by
  have stepped : IgnoresShadow (fun t => plsCase it t.pls.symbolIdx (slide it.y it.smp (countSymbol t))) :=
    .operand (a := fun t => t.pls.symbolIdx) (f := fun idx t => plsCase it idx (slide it.y it.smp (countSymbol t)))
      (fun _ _ => rfl) fun idx => (plsCase_ignores it idx).after fun _ _ => rfl
  exact (hostForce_ignores.comp carrierForce_ignores).comp stepped

/-! Carrier recovery (R601 to R640). -/

theorem mixSymbol_ignores (z : Cplx) (pos : Nat) : IgnoresShadow (mixSymbol z pos) := by
  have applied : IgnoresShadow (fun s => if pos = 0 ∧ s.cpr.fPendV then applyFreq s else s) :=
    .ite (fun _ _ => Iff.rfl) (fun _ _ => rfl) fun _ _ => rfl
  have mixed : IgnoresShadow (fun t => { t with cpr := { t.cpr with
      s1 := cmul z (cisT (fneg t.cpr.psi))
      psi := wrapT (fadd t.cpr.psi t.cpr.fAct) } }) := fun _ _ => rfl
  exact applied.comp mixed

theorem frameStart_ignores (it : Item45) : IgnoresShadow (frameStart it) := by
  have reported : IgnoresShadow reportCut := .ite (fun _ _ => Iff.rfl) (fun _ _ => rfl) fun _ _ => rfl
  have opened : IgnoresShadow (openFrame it) := fun _ _ => rfl
  have dropped : IgnoresShadow (dropIfFailed it) := .ite (fun _ _ => Iff.rfl) (fun _ _ => rfl) fun _ _ => rfl
  exact reported.comp (opened.comp dropped)

/-- What the estimator adds up at a header's end (R615). -/
theorem estimate_ignores : IgnoresShadow estimate :=
  .ite (p := fun s => s.cpr.nEst + 1#16 = s.act.cfg.plFreqEstPeriod) (fun _ _ => Iff.rfl) (fun _ _ => rfl) fun _ _ => rfl

theorem headerSymbol_ignores (z s1 : Cplx) (pos : Nat) : IgnoresShadow (headerSymbol z s1 pos) := by
  have stored : IgnoresShadow (storeHeader z s1 pos) := fun _ _ => rfl
  have referred : IgnoresShadow phaseRef := fun _ _ => rfl
  have ended : IgnoresShadow (fun t => if pos = 89 then phaseRef (estimate t) else t) :=
    .ite (fun _ _ => Iff.rfl) (estimate_ignores.comp referred) fun _ _ => rfl
  exact stored.comp ended

theorem dataSymbol_ignores (didx pos : Nat) (s1 : Cplx) : IgnoresShadow (dataSymbol didx pos s1) :=
  .ite (fun _ _ => Iff.rfl) (fun _ _ => rfl) fun _ _ => rfl

theorem pilotSymbol_ignores (blk o : Nat) (s1 : Cplx) : IgnoresShadow (pilotSymbol blk o s1) := by
  have accumulated : IgnoresShadow (pilotAccumulate (pilotIndex blk o) s1) := fun _ _ => rfl
  have ended : IgnoresShadow (fun t =>
      if o = 35 then (if pilotAbsent t then pilotFail t else pilotReference blk t) else t) :=
    .ite (fun _ _ => Iff.rfl) (.ite (fun _ _ => Iff.rfl) (fun _ _ => rfl) fun _ _ => rfl) fun _ _ => rfl
  exact accumulated.comp ended

theorem cprCase_ignores (it : Item45) : IgnoresShadow (cprCase it) := by
  intro c s
  unfold cprCase
  rw [reshadow_cpr]
  split
  · exact headerSymbol_ignores it.z s.cpr.s1 it.pos c s
  · exact pilotSymbol_ignores _ _ s.cpr.s1 c s
  · exact dataSymbol_ignores _ it.pos s.cpr.s1 c s

theorem cprBody_ignores (it : Item45) : IgnoresShadow (cprBody it) := by
  have mixed : IgnoresShadow (fun s =>
      mixSymbol it.z it.pos { s with cpr := { s.cpr with fr := { s.cpr.fr with next := it.pos + 1 } } }) :=
    (mixSymbol_ignores it.z it.pos).after fun _ _ => rfl
  have closed : IgnoresShadow (closeFrame it) := .ite (fun _ _ => Iff.rfl) (fun _ _ => rfl) fun _ _ => rfl
  have followed : IgnoresShadow (fun t => if t.cpr.fr.drop then t else closeFrame it (cprCase it t)) :=
    .ite (fun _ _ => Iff.rfl) (fun _ _ => rfl) ((cprCase_ignores it).comp closed)
  exact mixed.comp followed

theorem cprProcess_ignores (it : Item45) : IgnoresShadow (cprProcess it) :=
  .ite (p := fun _ => it.pos = 0) (fun _ _ => Iff.rfl) ((frameStart_ignores it).comp (cprBody_ignores it))
    (.ite (fun _ _ => Iff.rfl) (cprBody_ignores it) fun _ _ => rfl)

theorem cprStep_ignores : IgnoresShadow cprStep := by
  intro c s
  unfold cprStep
  rw [reshadow_fifo]
  split
  · rfl
  · next it rest _ =>
    exact IgnoresShadow.ite (p := fun s => cprEnabled s = true)
      (f := fun s => cprProcess it { s with fifo := { s.fifo with l45 := rest } }) (g := id)
      (fun _ _ => Iff.rfl) ((cprProcess_ignores it).after fun _ _ => rfl) (fun _ _ => rfl) c s

/-! The descrambler, and the drain steps (R110, R711). -/

theorem dscProcess_ignores (it : Item56) : IgnoresShadow (dscProcess it) := by
  cases it <;> exact fun _ _ => rfl

theorem drainStep_ignores (g : Group) : IgnoresShadow (drainStep g) := by
  intro c s
  cases g with
  | dsc =>
    simp only [drainStep, drainDsc]
    rw [apply_ite (reshadow c)]
    rfl
  | agc | mf | str | pls | cpr =>
    simp only [drainStep, drainAgc, drainMf, drainStr, drainPls, drainCpr, reshadow_agc, reshadow_mf, reshadow_str,
      reshadow_pls, reshadow_cpr]
    split
    · rfl
    · rw [apply_ite (reshadow c)]
      rfl

/-! ## The operations -/

/-- The outcome of an operation that may be enabled. -/
theorem guarded_ignores {ready : State → Bool} {f : State → State} (hr : ∀ c s, ready (reshadow c s) = ready s)
    (hf : IgnoresShadow f) {s t : State} (c : Cfg)
    (h : (if ready s = true then Host.Outcome.next (φ := Fault) (ρ := Refusal) (f s) else .next s) = .next t) :
    (if ready (reshadow c s) = true then Host.Outcome.next (φ := Fault) (ρ := Refusal) (f (reshadow c s))
      else .next (reshadow c s)) = .next (reshadow c t) := by
  rw [hr]
  split at h
  · next enabled =>
    cases h
    rw [if_pos enabled, hf]
  · next idle =>
    cases h
    rw [if_neg idle]

/-- A unit operation does the same whatever the shadow copy holds. -/
theorem exec_ignores {i : Instr} (unit : isUnitOp i = true) {s t : State} (c : Cfg) (h : exec i s = .next t) :
    exec i (reshadow c s) = .next (reshadow c t) := by
  cases i with
  | agcStep =>
    simp only [exec, execAgcStep, reshadow_fifo] at h ⊢
    cases items : s.fifo.fIn with
    | nil => rw [items] at h; cases h; rfl
    | cons it rest =>
      rw [items] at h
      exact guarded_ignores (ready := agcEnabled) (f := fun s => agcProcess it { s with fifo := { s.fifo with fIn := rest } })
        (fun _ _ => rfl) ((agcProcess_ignores it).after fun _ _ => rfl) c h
  | mfStep =>
    simp only [exec, execMfStep, reshadow_fifo] at h ⊢
    cases items : s.fifo.l12 with
    | nil => rw [items] at h; cases h; rfl
    | cons it rest =>
      rw [items] at h
      exact guarded_ignores (ready := mfEnabled) (f := fun s => mfProcess it { s with fifo := { s.fifo with l12 := rest } })
        (fun _ _ => rfl) ((mfProcess_ignores it).after fun _ _ => rfl) c h
  | strStep =>
    simp only [exec, execStrStep, reshadow_fifo] at h ⊢
    cases items : s.fifo.l23 with
    | nil => rw [items] at h; cases h; rfl
    | cons it rest =>
      rw [items] at h
      exact guarded_ignores (ready := strEnabled) (f := fun s => strProcess it { s with fifo := { s.fifo with l23 := rest } })
        (fun _ _ => rfl) ((strProcess_ignores it).after fun _ _ => rfl) c h
  | plsStep =>
    simp only [exec, execPlsStep, reshadow_fifo] at h ⊢
    cases items : s.fifo.l34 with
    | nil => rw [items] at h; cases h; rfl
    | cons it rest =>
      rw [items] at h
      exact guarded_ignores (ready := plsEnabled) (f := fun s => plsProcess it { s with fifo := { s.fifo with l34 := rest } })
        (fun _ _ => rfl) ((plsProcess_ignores it).after fun _ _ => rfl) c h
  | dscStep =>
    simp only [exec, execDscStep, reshadow_fifo] at h ⊢
    cases items : s.fifo.l56 with
    | nil => rw [items] at h; cases h; rfl
    | cons it rest =>
      rw [items] at h
      exact guarded_ignores (ready := dscEnabled) (f := fun s => dscProcess it { s with fifo := { s.fifo with l56 := rest } })
        (fun _ _ => rfl) ((dscProcess_ignores it).after fun _ _ => rfl) c h
  | hdrTest => exact guarded_ignores (ready := plsReady) (f := hdrTest) (fun _ _ => rfl) (fun _ _ => rfl) c h
  | hdrDecode => exact guarded_ignores (ready := plsReady) (f := hdrDecode) (fun _ _ => rfl) (fun _ _ => rfl) c h
  | freqUpdate => exact guarded_ignores (ready := cprReady) (f := freqUpdate) (fun _ _ => rfl) (fun _ _ => rfl) c h
  | mix z pos => exact guarded_ignores (ready := cprReady) (fun _ _ => rfl) (mixSymbol_ignores z pos.toNat) c h
  | phaseRef => exact guarded_ignores (ready := cprReady) (f := phaseRef) (fun _ _ => rfl) (fun _ _ => rfl) c h
  | pilotSymbol blk o s1 =>
    exact guarded_ignores (ready := cprReady) (fun _ _ => rfl) (pilotSymbol_ignores blk.toNat o.toNat s1) c h
  | _ => cases unit

/-- Settles O11: the unit operations by `exec_ignores`, the agents' own steps by `cprStep_ignores` and `drainStep_ignores`. -/
theorem unitsIgnoreShadow : Obligations.UnitsIgnoreShadow := by
  refine fun s t c => ⟨fun i unit h => exec_ignores unit c h, ?_⟩
  rintro a (rfl | ⟨g, rfl⟩) h
  · cases h
    exact congrArg Host.Outcome.next (cprStep_ignores c s)
  · cases h
    exact congrArg Host.Outcome.next (drainStep_ignores g c s)

end Sys2Proof.Shadow

namespace Sys2Proof.Groups

open Sys2Proof.Machine Sys2Proof.Laws

/-! ## What a unit group owns (R112, R113)

The state falls into five parts, one per unit group, and what no unit operation writes. PLS and CPR, which the `FORCE`
back-channel joins, are one part. Beside its part a group only adds to what all of them report into: the event bits, which
are joined, and `DROP_CNT`, which is counted up. -/

/-- The parts of the state. -/
inductive Part where
  | agc
  | mf
  | str
  | sync
  | dsc
  deriving DecidableEq

/-- An item of part `x`: part `p` keeps its own and takes what the others have. -/
def pick {α : Type} (p x : Part) (own others : α) : α := if x = p then own else others

theorem pick_self {α : Type} (p x : Part) (a : α) : pick p x a a = a := ite_self a

theorem pick_comm {α : Type} {p q : Part} (apart : p ≠ q) (x : Part) (a b c : α) :
    pick p x a (pick q x b c) = pick q x b (pick p x a c) := by
  unfold pick
  split
  · next own => rw [if_neg (own ▸ apart)]
  · rfl

/-- What no unit operation writes. -/
def common (s : State) : State :=
  { State.reset with
    shadow := s.shadow
    act := s.act
    ctl := { s.ctl with irqStatus := 0#10, numEvt := 0#10 }
    cnt := { State.reset.cnt with frameCnt := s.cnt.frameCnt }
    holds := s.holds
    port := s.port
    agenda := s.agenda }

/-- Part `p` and the common items of `s`, the other parts of `t`, and the reports of both. -/
def blend (p : Part) (s t : State) : State :=
  { common s with
    ctl := { (common s).ctl with
      irqStatus := s.ctl.irqStatus ||| t.ctl.irqStatus
      numEvt := s.ctl.numEvt ||| t.ctl.numEvt }
    cnt :=
      { frameCnt := (common s).cnt.frameCnt
        dropCnt := s.cnt.dropCnt + t.cnt.dropCnt
        acqCnt := pick p .sync s.cnt.acqCnt t.cnt.acqCnt
        lossCnt := pick p .sync s.cnt.lossCnt t.cnt.lossCnt
        pilotFailCnt := pick p .sync s.cnt.pilotFailCnt t.cnt.pilotFailCnt }
    live :=
      { lastHdrSym := pick p .sync s.live.lastHdrSym t.live.lastHdrSym
        lastHdrSmp := pick p .sync s.live.lastHdrSmp t.live.lastHdrSmp
        lastPls := pick p .sync s.live.lastPls t.live.lastPls
        lastDist := pick p .sync s.live.lastDist t.live.lastDist
        frameLen := pick p .sync s.live.frameLen t.live.frameLen
        freqEst := pick p .sync s.live.freqEst t.live.freqEst
        freqEstHz := pick p .sync s.live.freqEstHz t.live.freqEstHz
        agcGainCur := pick p .agc s.live.agcGainCur t.live.agcGainCur
        strPeriodCur := pick p .str s.live.strPeriodCur t.live.strPeriodCur
        strMuCur := pick p .str s.live.strMuCur t.live.strMuCur
        strErrCur := pick p .str s.live.strErrCur t.live.strErrCur
        corrLast := pick p .sync s.live.corrLast t.live.corrLast
        phaseLast := pick p .sync s.live.phaseLast t.live.phaseLast }
    agc := pick p .agc s.agc t.agc
    mf := pick p .mf s.mf t.mf
    str := pick p .str s.str t.str
    pls := pick p .sync s.pls t.pls
    cpr := pick p .sync s.cpr t.cpr
    dsc := pick p .dsc s.dsc t.dsc
    fifo :=
      { fIn := pick p .agc s.fifo.fIn t.fifo.fIn
        l12 := pick p .mf s.fifo.l12 t.fifo.l12
        l23 := pick p .str s.fifo.l23 t.fifo.l23
        l34 := pick p .sync s.fifo.l34 t.fifo.l34
        l45 := pick p .sync s.fifo.l45 t.fifo.l45
        l56 := pick p .dsc s.fifo.l56 t.fifo.l56 } }

/-- The state with nothing reported yet. -/
def unreported (s : State) : State :=
  { s with ctl := { s.ctl with irqStatus := 0#10, numEvt := 0#10 }, cnt := { s.cnt with dropCnt := 0#32 } }

theorem blend_unreported (p : Part) (s : State) : blend p (unreported s) s = s := by
  simp [blend, common, unreported, pick_self]

/-- Two parts of a state are written in either order. -/
theorem blend_left_comm {p q : Part} (apart : p ≠ q) {u v : State} (same : common u = common v) (s : State) :
    blend p u (blend q v s) = blend q v (blend p u s) := by
  have events (a b c : BitVec 10) : a ||| (b ||| c) = b ||| (a ||| c) := by
    rw [← BitVec.or_assoc, BitVec.or_comm a b, BitVec.or_assoc]
  rw [blend, blend.eq_def q v (blend p u s), same]
  congr 1
  case e_ctl => exact congrArg₂ (fun i n => { (common v).ctl with irqStatus := i, numEvt := n }) (events _ _ _) (events _ _ _)
  case e_cnt =>
    congr 1
    · exact add_left_comm _ _ _
    all_goals exact pick_comm apart _ _ _ _
  case e_live | e_fifo => congr 1 <;> exact pick_comm apart _ _ _ _
  all_goals exact pick_comm apart _ _ _ _

/-! ## Operations of one part -/

/-- The operation reads and writes part `p` and the common items only, and leaves the common ones; it adds its own reports. -/
structure ActsOn (p : Part) (f : State → State) : Prop where
  reads : ∀ s t, f (blend p s t) = blend p (f s) t
  keeps : ∀ s, common (f s) = common s

namespace ActsOn

variable {p : Part}

theorem id : ActsOn p (fun s => s) := ⟨fun _ _ => rfl, fun _ => rfl⟩

theorem comp {f g : State → State} (hf : ActsOn p f) (hg : ActsOn p g) : ActsOn p (fun s => g (f s)) :=
  ⟨fun s t => (congrArg g (hf.reads s t)).trans (hg.reads (f s) t), fun s => (hg.keeps (f s)).trans (hf.keeps s)⟩

/-- The operation on an updated state. -/
theorem after {f g : State → State} (hg : ActsOn p g) (hf : ActsOn p f) : ActsOn p (fun s => g (f s)) := hf.comp hg

/-- A branch on what the other parts do not decide. -/
theorem ite {c : State → Prop} [∀ s, Decidable (c s)] {f g : State → State}
    (hc : ∀ s t, c (blend p s t) ↔ c s) (hf : ActsOn p f) (hg : ActsOn p g) :
    ActsOn p (fun s => if c s then f s else g s) where
  reads s t := by
    by_cases h : c s
    · simp only [if_pos h, if_pos ((hc s t).mpr h), hf.reads]
    · simp only [if_neg h, if_neg (mt (hc s t).mp h), hg.reads]
  keeps s := by
    by_cases h : c s
    · simp only [if_pos h, hf.keeps]
    · simp only [if_neg h, hg.keeps]

/-- An operand that the other parts do not touch. -/
theorem operand {α : Type} {a : State → α} {f : α → State → State} (ha : ∀ s t, a (blend p s t) = a s)
    (hf : ∀ x, ActsOn p (f x)) : ActsOn p (fun s => f (a s) s) where
  reads s t := (congrArg (f · (blend p s t)) (ha s t)).trans ((hf (a s)).reads s t)
  keeps s := (hf (a s)).keeps s

/-- What the operation does to part `p` shows on the state with nothing reported yet. -/
theorem eq_blend {f : State → State} (hf : ActsOn p f) (s : State) : f s = blend p (f (unreported s)) s := by
  rw [← hf.reads, blend_unreported]

/-- An operation of another part leaves what it does. -/
theorem eq_blend_after {q : Part} {f g : State → State} (hf : ActsOn p f) (hg : ActsOn q g) (apart : p ≠ q) (s : State) :
    f (g s) = blend p (f (unreported s)) (g s) := by
  have same : common (unreported s) = common (g (unreported s)) := (hg.keeps _).symm
  have kept : blend p (unreported s) (g s) = g s := by
    rw [hg.eq_blend s, blend_left_comm apart same, blend_unreported]
  rw [← hf.reads, kept]

/-- R113: operations of two parts commute. -/
theorem commute {q : Part} {f g : State → State} (hf : ActsOn p f) (hg : ActsOn q g) (apart : p ≠ q) (s : State) :
    f (g s) = g (f s) := by
  have same : common (f (unreported s)) = common (g (unreported s)) := by rw [hf.keeps, hg.keeps]
  rw [hf.eq_blend_after hg apart, hg.eq_blend_after hf apart.symm, hf.eq_blend s, hg.eq_blend s, blend_left_comm apart same]

end ActsOn

/-! Reports (R534, R801, R803). -/

theorem event_bits_right_comm (a b c : BitVec 10) : a ||| b ||| c = a ||| c ||| b := by
  rw [BitVec.or_assoc, BitVec.or_comm b, BitVec.or_assoc]

theorem irqSet_acts (p : Part) (e : Event) : ActsOn p (irqSet e) where
  reads s t := by simp only [irqSet, blend, common, event_bits_right_comm]
  keeps _ := rfl

theorem dropFrame_acts (p : Part) : ActsOn p dropFrame :=
  (irqSet_acts p .frameDrop).after ⟨fun s t => by simp only [blend, common, add_right_comm], fun _ => rfl⟩

theorem raiseNum_acts (p : Part) (u : NumUnit) : ActsOn p (raiseNum u) :=
  (irqSet_acts p .numeric).after ⟨fun s t => by simp only [blend, common, event_bits_right_comm], fun _ => rfl⟩

theorem raiseNumIf_acts {p : Part} {clipped : State → Bool} {u : NumUnit} {f : State → State}
    (hc : ∀ s t, clipped (blend p s t) = clipped s) (hf : ActsOn p f) : ActsOn p (fun s => raiseNumIf (clipped s) u (f s)) :=
  .operand (f := fun b s => raiseNumIf b u (f s)) hc fun _ => hf.comp (.ite (fun _ _ => Iff.rfl) (raiseNum_acts p u) .id)

/-! The front end (R300 to R409). -/

theorem agcProcess_acts (x : Cplx) : ActsOn .agc (agcProcess x) :=
  raiseNumIf_acts (fun _ _ => rfl) ⟨fun _ _ => rfl, fun _ => rfl⟩

theorem mfProcess_acts (it : Item12) : ActsOn .mf (mfProcess it) :=
  raiseNumIf_acts (fun _ _ => rfl) ⟨fun _ _ => rfl, fun _ => rfl⟩

theorem midpoint_acts (y : List Cplx) : ActsOn .str (midpoint y) := ⟨fun _ _ => rfl, fun _ => rfl⟩

theorem strobe_acts (y : List Cplx) (smp : Idx) : ActsOn .str (strobe y smp) :=
  raiseNumIf_acts (fun _ _ => rfl) ⟨fun _ _ => rfl, fun _ => rfl⟩

theorem strLoop_acts (y : List Cplx) (smp : Idx) (k : Nat) : ActsOn .str (strLoop y smp k) := by
  induction k with
  | zero => exact .id
  | succ k ih =>
    exact .ite (fun _ _ => Iff.rfl) ((midpoint_acts y).comp ih)
      (.ite (fun _ _ => Iff.rfl) ((strobe_acts y smp).comp ih) .id)

theorem strProcess_acts (it : Item23) : ActsOn .str (strProcess it) :=
  (strLoop_acts it.y it.smp 3).comp (g := strAdvance) ⟨fun _ _ => rfl, fun _ => rfl⟩

/-! The synchroniser (R508 to R537). -/

theorem enterSearch_acts : ActsOn .sync enterSearch := (irqSet_acts .sync .lockLost).after ⟨fun _ _ => rfl, fun _ => rfl⟩

theorem leaveLock_acts : ActsOn .sync leaveLock := .ite (fun _ _ => Iff.rfl) .id enterSearch_acts

theorem hostForce_acts : ActsOn .sync hostForce :=
  .ite (fun _ _ => Iff.rfl) (leaveLock_acts.after ⟨fun _ _ => rfl, fun _ => rfl⟩) .id

theorem carrierForce_acts : ActsOn .sync carrierForce :=
  .ite (fun _ _ => Iff.rfl)
    (.ite (fun _ _ => Iff.rfl) (leaveLock_acts.after ⟨fun _ _ => rfl, fun _ => rfl⟩) ⟨fun _ _ => rfl, fun _ => rfl⟩) .id

theorem startFrame_acts (p : BitVec 7) : ActsOn .sync (startFrame p) :=
  .ite (fun _ _ => Iff.rfl) ⟨fun _ _ => rfl, fun _ => rfl⟩
    (.ite (fun _ _ => Iff.rfl) ((dropFrame_acts .sync).after ⟨fun _ _ => rfl, fun _ => rfl⟩)
      ⟨fun _ _ => rfl, fun _ => rfl⟩)

theorem emitHeader_acts (w : List Cplx) (ws : List Idx) : ActsOn .sync (emitHeader w ws) := by
  have emitted : emitHeader w ws = fun s => _ := funext (emitHeader_eq w ws)
  rw [emitted]
  exact ⟨fun _ _ => rfl, fun _ => rfl⟩

theorem searchStep_acts (idx : Idx) : ActsOn .sync (searchStep idx) :=
  .ite (fun _ _ => Iff.rfl)
    (.ite (c := fun s => (hdrTest s).pls.hit = true) (fun _ _ => Iff.rfl) ⟨fun _ _ => rfl, fun _ => rfl⟩
      ⟨fun _ _ => rfl, fun _ => rfl⟩) .id

theorem enterLock_acts (d : Pend) : ActsOn .sync (enterLock d) :=
  (startFrame_acts d.dec.pls).after (.after (g := lastHdr d.sym0 (d.wsmp.getD 0 0#64)) ⟨fun _ _ => rfl, fun _ => rfl⟩
    ((irqSet_acts .sync .lock).after ⟨fun _ _ => rfl, fun _ => rfl⟩))

/-- An accepted header's symbols are staged when its frame is forwarded. -/
theorem stageIfForwarded_acts {f : State → State} (hf : ActsOn .sync f) :
    ActsOn .sync (fun t => if t.pls.fwd then f t else t) :=
  .ite (fun _ _ => Iff.rfl) hf .id

theorem confirmStep_acts (y : Cplx) (smp idx : Idx) : ActsOn .sync (confirmStep y smp idx) := by
  have staged (d : Pend) : ActsOn .sync (fun t => if t.pls.fwd then emit y smp 90 (emitHeader d.w d.wsmp t) else t) :=
    stageIfForwarded_acts ((emitHeader_acts d.w d.wsmp).comp (g := emit y smp 90) ⟨fun _ _ => rfl, fun _ => rfl⟩)
  have accepted (d : Pend) := ((enterLock_acts d).comp (staged d)).comp (g := clearPend) ⟨fun _ _ => rfl, fun _ => rfl⟩
  refine .operand (a := fun s => s.pls.pend) (f := fun pend s => match pend with
    | none => searchStep idx { s with pls := { s.pls with state := .searching } }
    | some d =>
      if d.dec.ok then
        let t := enterLock d s
        clearPend (if t.pls.fwd then emit y smp 90 (emitHeader d.w d.wsmp t) else t)
      else searchStep idx { s with pls := { s.pls with state := .searching, pend := none } }) (fun _ _ => rfl) fun pend => ?_
  cases pend with
  | none => exact (searchStep_acts idx).after ⟨fun _ _ => rfl, fun _ => rfl⟩
  | some d =>
    exact .ite (fun _ _ => Iff.rfl) (accepted d) ((searchStep_acts idx).after ⟨fun _ _ => rfl, fun _ => rfl⟩)

theorem acceptHeader_acts (p : BitVec 7) (idx : Idx) : ActsOn .sync (acceptHeader p idx) := by
  have started (smp0 : Idx) : ActsOn .sync (fun s => startFrame p (lastHdr (idx - 89#64) smp0 s)) :=
    (startFrame_acts p).after ⟨fun _ _ => rfl, fun _ => rfl⟩
  have staged : ActsOn .sync (fun t => emitHeader t.pls.w t.pls.wsmp t) :=
    .operand (a := fun t => (t.pls.w, t.pls.wsmp)) (f := fun x => emitHeader x.1 x.2) (fun _ _ => rfl)
      fun x => emitHeader_acts x.1 x.2
  exact .operand (a := fun s => s.pls.wsmp.getD 0 0#64) (fun _ _ => rfl) fun smp0 =>
    (started smp0).comp (stageIfForwarded_acts staged)

theorem failHeader_acts (p : BitVec 7) : ActsOn .sync (failHeader p) :=
  .ite (c := fun _ => modcodOf p = 0) (fun _ _ => Iff.rfl) ⟨fun _ _ => rfl, fun _ => rfl⟩
    ((dropFrame_acts .sync).after ⟨fun _ _ => rfl, fun _ => rfl⟩)

theorem check_acts (idx : Idx) : ActsOn .sync (check idx) := by
  have tracked (p : BitVec 7) : ActsOn .sync (trackFrame p) := ⟨fun _ _ => rfl, fun _ => rfl⟩
  have followed (p : BitVec 7) : ActsOn .sync (fun t =>
      if t.pls.hit && t.pls.dec.ok then acceptHeader p idx (trackFrame p t) else failHeader p (trackFrame p t)) :=
    .ite (fun _ _ => Iff.rfl) ((acceptHeader_acts p idx).after (tracked p)) ((failHeader_acts p).after (tracked p))
  have checked : ActsOn .sync checkHeader := ⟨fun _ _ => rfl, fun _ => rfl⟩
  have settled := ActsOn.ite (c := fun t => lockIsLost t = true) (fun _ _ => Iff.rfl) enterSearch_acts
    (.operand (a := trackedPls) (fun _ _ => rfl) followed)
  exact checked.comp settled

theorem trackStep_acts (y : Cplx) (smp idx : Idx) : ActsOn .sync (trackStep y smp idx) := by
  have counted : ActsOn .sync (fun s => { s with pls := { s.pls with cnt := s.pls.cnt - 1 } }) :=
    ⟨fun _ _ => rfl, fun _ => rfl⟩
  have followed : ActsOn .sync (fun t =>
      if 90 ≤ t.pls.cnt then (if t.pls.fwd then emit y smp (t.pls.curLen + 89 - t.pls.cnt) t else t)
      else if t.pls.cnt = 0 then check idx t else t) :=
    .ite (fun _ _ => Iff.rfl) (stageIfForwarded_acts ⟨fun _ _ => rfl, fun _ => rfl⟩)
      (.ite (fun _ _ => Iff.rfl) (check_acts idx) .id)
  exact counted.comp followed

theorem plsCase_acts (it : Item34) (idx : Idx) : ActsOn .sync (plsCase it idx) := by
  refine .operand (a := fun s => s.pls.state) (f := fun state s => match state with
    | .searching => searchStep idx s
    | .headerFound => confirmStep it.y it.smp idx s
    | .locked => trackStep it.y it.smp idx s) (fun _ _ => rfl) fun state => ?_
  cases state with
  | searching => exact searchStep_acts idx
  | headerFound => exact confirmStep_acts it.y it.smp idx
  | locked => exact trackStep_acts it.y it.smp idx

theorem plsProcess_acts (it : Item34) : ActsOn .sync (plsProcess it) := by
  have shifted : ActsOn .sync (fun t => slide it.y it.smp (countSymbol t)) := ⟨fun _ _ => rfl, fun _ => rfl⟩
  have stepped : ActsOn .sync (fun t => plsCase it t.pls.symbolIdx (slide it.y it.smp (countSymbol t))) :=
    .operand (f := fun idx t => plsCase it idx (slide it.y it.smp (countSymbol t))) (fun _ _ => rfl) fun idx =>
      (plsCase_acts it idx).after shifted
  exact (hostForce_acts.comp carrierForce_acts).comp stepped

/-! Carrier recovery (R601 to R640). -/

theorem mixSymbol_acts (z : Cplx) (pos : Nat) : ActsOn .sync (mixSymbol z pos) := by
  have applied : ActsOn .sync (fun s => if pos = 0 ∧ s.cpr.fPendV then applyFreq s else s) :=
    .ite (fun _ _ => Iff.rfl) ⟨fun _ _ => rfl, fun _ => rfl⟩ .id
  have mixed : ActsOn .sync (fun t => { t with cpr := { t.cpr with
      s1 := cmul z (cisT (fneg t.cpr.psi))
      psi := wrapT (fadd t.cpr.psi t.cpr.fAct) } }) := ⟨fun _ _ => rfl, fun _ => rfl⟩
  exact applied.comp mixed

theorem frameStart_acts (it : Item45) : ActsOn .sync (frameStart it) := by
  have reported : ActsOn .sync reportCut := .ite (fun _ _ => Iff.rfl) ⟨fun _ _ => rfl, fun _ => rfl⟩ .id
  have opened : ActsOn .sync (openFrame it) := ⟨fun _ _ => rfl, fun _ => rfl⟩
  have dropped : ActsOn .sync (dropIfFailed it) :=
    .ite (fun _ _ => Iff.rfl) ⟨fun _ _ => rfl, fun _ => rfl⟩ ⟨fun _ _ => rfl, fun _ => rfl⟩
  exact reported.comp (opened.comp dropped)

theorem freqUpdate_acts : ActsOn .sync freqUpdate := (irqSet_acts .sync .freqUpd).after ⟨fun _ _ => rfl, fun _ => rfl⟩

theorem estimate_acts : ActsOn .sync estimate := by
  have added : ActsOn .sync (fun s => { s with cpr := { s.cpr with
      dAcc := cadd s.cpr.dAcc (headerDiff s.act.cfg s.cpr.fr.pls s.cpr.hraw)
      nEst := s.cpr.nEst + 1#16 } }) := ⟨fun _ _ => rfl, fun _ => rfl⟩
  have updated : ActsOn .sync (fun t => if t.cpr.nEst = t.act.cfg.plFreqEstPeriod then freqUpdate t else t) :=
    .ite (fun _ _ => Iff.rfl) freqUpdate_acts .id
  exact added.comp updated

theorem headerSymbol_acts (z s1 : Cplx) (pos : Nat) : ActsOn .sync (headerSymbol z s1 pos) := by
  have stored : ActsOn .sync (storeHeader z s1 pos) := ⟨fun _ _ => rfl, fun _ => rfl⟩
  have referred : ActsOn .sync phaseRef := ⟨fun _ _ => rfl, fun _ => rfl⟩
  have ended : ActsOn .sync (fun t => if pos = 89 then phaseRef (estimate t) else t) :=
    .ite (fun _ _ => Iff.rfl) (estimate_acts.comp referred) .id
  exact stored.comp ended

theorem dataSymbol_acts (didx pos : Nat) (s1 : Cplx) : ActsOn .sync (dataSymbol didx pos s1) :=
  .ite (fun _ _ => Iff.rfl) ⟨fun _ _ => rfl, fun _ => rfl⟩ ⟨fun _ _ => rfl, fun _ => rfl⟩

/-- The request of R640 stays within the part, whose synchroniser it reaches (R112). -/
theorem pilotFail_acts : ActsOn .sync pilotFail := by
  have failed := (irqSet_acts .sync .pilotFail).after (f := fun s => { s with
    cpr := { s.cpr with
      hold := []
      fr := { s.cpr.fr with drop := true }
      outq := s.cpr.outq ++ [.abort s.cpr.fr.fid]
      failV := true
      failEpoch := s.cpr.fr.ep }
    cnt := { s.cnt with pilotFailCnt := s.cnt.pilotFailCnt + 1#32 } }) ⟨fun _ _ => rfl, fun _ => rfl⟩
  exact .operand (a := fun s => s.cpr.fr.ep) (fun _ _ => rfl) fun e => failed.comp (g := forceRequest e)
    ⟨fun _ _ => rfl, fun _ => rfl⟩

theorem pilotSymbol_acts (blk o : Nat) (s1 : Cplx) : ActsOn .sync (pilotSymbol blk o s1) := by
  have accumulated : ActsOn .sync (pilotAccumulate (pilotIndex blk o) s1) := ⟨fun _ _ => rfl, fun _ => rfl⟩
  have referred : ActsOn .sync (pilotReference blk) := ⟨fun _ _ => rfl, fun _ => rfl⟩
  have ended : ActsOn .sync (fun t =>
      if o = 35 then (if pilotAbsent t then pilotFail t else pilotReference blk t) else t) :=
    .ite (fun _ _ => Iff.rfl) (.ite (fun _ _ => Iff.rfl) pilotFail_acts referred) .id
  exact accumulated.comp ended

theorem cprCase_acts (it : Item45) : ActsOn .sync (cprCase it) := by
  refine .operand (a := fun s => (posClass s.cpr.fr.p it.pos, s.cpr.s1)) (f := fun x s => match x.1 with
    | .header _ => headerSymbol it.z x.2 it.pos s
    | .pilot blk o => pilotSymbol blk o x.2 s
    | .data didx => dataSymbol didx it.pos x.2 s) (fun _ _ => rfl) ?_
  rintro ⟨_ | _ | _, s1⟩
  · exact headerSymbol_acts it.z s1 it.pos
  · exact pilotSymbol_acts _ _ s1
  · exact dataSymbol_acts _ it.pos s1

theorem cprBody_acts (it : Item45) : ActsOn .sync (cprBody it) := by
  have mixed : ActsOn .sync (fun s =>
      mixSymbol it.z it.pos { s with cpr := { s.cpr with fr := { s.cpr.fr with next := it.pos + 1 } } }) :=
    (mixSymbol_acts it.z it.pos).after ⟨fun _ _ => rfl, fun _ => rfl⟩
  have closed : ActsOn .sync (closeFrame it) := .ite (fun _ _ => Iff.rfl) ⟨fun _ _ => rfl, fun _ => rfl⟩ .id
  have followed : ActsOn .sync (fun t => if t.cpr.fr.drop then t else closeFrame it (cprCase it t)) :=
    .ite (fun _ _ => Iff.rfl) .id ((cprCase_acts it).comp closed)
  exact mixed.comp followed

theorem cprProcess_acts (it : Item45) : ActsOn .sync (cprProcess it) :=
  .ite (c := fun _ => it.pos = 0) (fun _ _ => Iff.rfl) ((frameStart_acts it).comp (cprBody_acts it))
    (.ite (fun _ _ => Iff.rfl) (cprBody_acts it) .id)

/-! The descrambler (R711, R720). -/

theorem dscProcess_acts (it : Item56) : ActsOn .dsc (dscProcess it) := by
  cases it with
  | data => exact ⟨fun _ _ => rfl, fun _ => rfl⟩
  | abort => exact (dropFrame_acts .dsc).after ⟨fun _ _ => rfl, fun _ => rfl⟩

/-! ## Process steps (R110) -/

/-- A process step: the operation `run` on the oldest item of its queue when it is enabled, else nothing. -/
def onOldest {α : Type} (queue : State → List α) (enabled : State → Bool) (run : α → List α → State → State) (s : State) :
    State :=
  match queue s with
  | [] => s
  | x :: rest => if enabled s then run x rest s else s

/-- A process step that is not enabled: the block stopped, the queue empty, or the group's output in the way. -/
theorem onOldest_idle {α : Type} {queue : State → List α} {enabled : State → Bool} {run : α → List α → State → State}
    {s : State} {blocked : Prop} (idle : s.ctl.running = false ∨ queue s = [] ∨ blocked)
    (of_stopped : s.ctl.running = false → enabled s = false) (of_blocked : blocked → enabled s = false) :
    onOldest queue enabled run s = s := by
  unfold onOldest
  obtain stopped | empty | blocked := idle
  · rw [of_stopped stopped]; split <;> rfl
  · rw [empty]
  · rw [of_blocked blocked]; split <;> rfl

theorem onOldest_acts {α : Type} {p : Part} {queue : State → List α} {enabled : State → Bool}
    {run : α → List α → State → State} (hq : ∀ s t, queue (blend p s t) = queue s)
    (he : ∀ s t, enabled (blend p s t) = enabled s) (hr : ∀ x rest, ActsOn p (run x rest)) :
    ActsOn p (onOldest queue enabled run) := by
  refine .operand (a := queue) (f := fun items s => match items with
    | [] => s
    | x :: rest => if enabled s then run x rest s else s) hq fun items => ?_
  cases items with
  | nil => exact .id
  | cons x rest => exact .ite (fun s t => by rw [he]) (hr x rest) .id

/-- AGC_STEP, as one process step (R300). -/
def agcTurn : State → State :=
  onOldest (·.fifo.fIn) agcEnabled fun x rest s => agcProcess x { s with fifo := { s.fifo with fIn := rest } }

/-- MF_STEP, as one process step (R314). -/
def mfTurn : State → State :=
  onOldest (·.fifo.l12) mfEnabled fun it rest s => mfProcess it { s with fifo := { s.fifo with l12 := rest } }

/-- STR_STEP, as one process step (R402). -/
def strTurn : State → State :=
  onOldest (·.fifo.l23) strEnabled fun it rest s => strProcess it { s with fifo := { s.fifo with l23 := rest } }

/-- PLS_STEP, as one process step (R521). -/
def plsTurn : State → State :=
  onOldest (·.fifo.l34) plsEnabled fun it rest s => plsProcess it { s with fifo := { s.fifo with l34 := rest } }

/-- The CPR process step (R601). -/
def cprTurn : State → State :=
  onOldest (·.fifo.l45) cprEnabled fun it rest s => cprProcess it { s with fifo := { s.fifo with l45 := rest } }

/-- DSC_STEP, as one process step (R711). -/
def dscTurn : State → State :=
  onOldest (·.fifo.l56) dscEnabled fun it rest s => dscProcess it { s with fifo := { s.fifo with l56 := rest } }

/-- The outcome of a process step, by its queue. -/
theorem eq_next_onOldest {α : Type} {queue : State → List α} {enabled : State → Bool} {run : α → List α → State → State}
    {s : State} {o : Host.Outcome State Fault Refusal} (empty : queue s = [] → o = .next s)
    (oldest : ∀ x rest, queue s = x :: rest → o = if enabled s then .next (run x rest s) else .next s) :
    o = .next (onOldest queue enabled run s) := by
  unfold onOldest
  split
  · next items => exact empty items
  · next x rest items => rw [oldest x rest items, apply_ite Host.Outcome.next]

theorem exec_agcStep (s : State) : exec .agcStep s = .next (agcTurn s) :=
  eq_next_onOldest (fun items => by simp only [exec, execAgcStep, items]) fun x rest items => by
    simp only [exec, execAgcStep, items]

theorem exec_mfStep (s : State) : exec .mfStep s = .next (mfTurn s) :=
  eq_next_onOldest (fun items => by simp only [exec, execMfStep, items]) fun x rest items => by
    simp only [exec, execMfStep, items]

theorem exec_strStep (s : State) : exec .strStep s = .next (strTurn s) :=
  eq_next_onOldest (fun items => by simp only [exec, execStrStep, items]) fun x rest items => by
    simp only [exec, execStrStep, items]

theorem exec_plsStep (s : State) : exec .plsStep s = .next (plsTurn s) :=
  eq_next_onOldest (fun items => by simp only [exec, execPlsStep, items]) fun x rest items => by
    simp only [exec, execPlsStep, items]

theorem exec_dscStep (s : State) : exec .dscStep s = .next (dscTurn s) :=
  eq_next_onOldest (fun items => by simp only [exec, execDscStep, items]) fun x rest items => by
    simp only [exec, execDscStep, items]

theorem agentStep_cprStep (s : State) : agentStep .cprStep s = .next (cprTurn s) :=
  eq_next_onOldest (fun items => by simp only [agentStep, cprStep, items]) fun x rest items => by
    simp only [agentStep, cprStep, items, apply_ite Host.Outcome.next]

theorem agcTurn_acts : ActsOn .agc agcTurn :=
  onOldest_acts (fun _ _ => rfl) (fun _ _ => rfl) fun x _ => (agcProcess_acts x).after ⟨fun _ _ => rfl, fun _ => rfl⟩

theorem mfTurn_acts : ActsOn .mf mfTurn :=
  onOldest_acts (fun _ _ => rfl) (fun _ _ => rfl) fun it _ => (mfProcess_acts it).after ⟨fun _ _ => rfl, fun _ => rfl⟩

theorem strTurn_acts : ActsOn .str strTurn :=
  onOldest_acts (fun _ _ => rfl) (fun _ _ => rfl) fun it _ => (strProcess_acts it).after ⟨fun _ _ => rfl, fun _ => rfl⟩

theorem plsTurn_acts : ActsOn .sync plsTurn :=
  onOldest_acts (fun _ _ => rfl) (fun _ _ => rfl) fun it _ => (plsProcess_acts it).after ⟨fun _ _ => rfl, fun _ => rfl⟩

theorem cprTurn_acts : ActsOn .sync cprTurn :=
  onOldest_acts (fun _ _ => rfl) (fun _ _ => rfl) fun it _ => (cprProcess_acts it).after ⟨fun _ _ => rfl, fun _ => rfl⟩

theorem dscTurn_acts : ActsOn .dsc dscTurn :=
  onOldest_acts (fun _ _ => rfl) (fun _ _ => rfl) fun it _ => (dscProcess_acts it).after ⟨fun _ _ => rfl, fun _ => rfl⟩

/-! ## The obligation -/

/-- The part a process step acts on. -/
def partOf : Instr → Part
  | .agcStep => .agc
  | .mfStep => .mf
  | .strStep => .str
  | .dscStep => .dsc
  | _ => .sync

theorem partOf_ne {i j : Instr} (hi : i ∈ unitSteps) (hj : j ∈ unitSteps) (h : i ≠ j) : partOf i ≠ partOf j := by
  have distinct : ∀ i ∈ unitSteps, ∀ j ∈ unitSteps, i ≠ j → partOf i ≠ partOf j := by decide
  exact distinct i hi j hj h

/-- Every process step acts on its part. -/
theorem exec_acts {i : Instr} (hi : i ∈ unitSteps) : ∃ f, ActsOn (partOf i) f ∧ ∀ s, exec i s = .next (f s) := by
  simp only [unitSteps, List.mem_cons, List.not_mem_nil, or_false] at hi
  obtain rfl | rfl | rfl | rfl | rfl := hi
  · exact ⟨_, agcTurn_acts, exec_agcStep⟩
  · exact ⟨_, mfTurn_acts, exec_mfStep⟩
  · exact ⟨_, strTurn_acts, exec_strStep⟩
  · exact ⟨_, plsTurn_acts, exec_plsStep⟩
  · exact ⟨_, dscTurn_acts, exec_dscStep⟩

/-- Steps of two parts, run one after the other. -/
theorem thenDo_comm {p q : Part} (apart : p ≠ q) {f g : State → State} (hf : ActsOn p f) (hg : ActsOn q g)
    {F G : State → Host.Outcome State Fault Refusal} (hF : ∀ s, F s = .next (f s)) (hG : ∀ s, G s = .next (g s)) (s : State) :
    thenDo (F s) G = thenDo (G s) F := by
  rw [hF, hG, thenDo, thenDo, hF, hG, hg.commute hf apart.symm]

/-- Settles O6: each step acts on its own part of the state, and what acts on two parts commutes. -/
theorem unitStepsCommute : Obligations.UnitStepsCommute := by
  refine ⟨fun s i j hi hj different => ?_, fun s i hi notPls => ?_⟩
  · obtain ⟨f, hf, exec_i⟩ := exec_acts hi
    obtain ⟨g, hg, exec_j⟩ := exec_acts hj
    exact thenDo_comm (partOf_ne hi hj different) hf hg exec_i exec_j s
  · obtain ⟨f, hf, exec_i⟩ := exec_acts hi
    have apart : partOf i ≠ .sync := partOf_ne hi (j := .plsStep) (by decide) notPls
    exact thenDo_comm apart hf cprTurn_acts exec_i agentStep_cprStep s

end Sys2Proof.Groups

namespace Sys2Proof.Steps

open Sys2Proof.Machine Sys2Proof.Laws Sys2Proof.Groups

/-! ## Steps that are not enabled (R110, R223) -/

theorem drainStep_stopped (g : Group) {s : State} (stopped : s.ctl.running = false) : drainStep g s = s := by
  cases g with
  | dsc => simp only [drainStep, drainDsc, stopped, Bool.false_and, Bool.false_eq_true, if_false]
  | agc | mf | str | pls | cpr =>
    simp only [drainStep, drainAgc, drainMf, drainStr, drainPls, drainCpr, stopped, Bool.false_and,
      Bool.false_eq_true, if_false]
    split <;> rfl

/-- Settles O18: a process step by `onOldest_idle`, every other step by its own enabling condition. -/
theorem notEnabledNotTaken : Obligations.NotEnabledNotTaken := by
  intro s
  refine ⟨fun h => ?agc, fun h => ?mf, fun h => ?str, fun h => ?pls, fun h => ?cpr, fun h => ?dsc, fun h => ?header,
    fun h => ?carrier, fun stopped => ?stopped⟩
  case agc =>
    rw [exec_agcStep, agcTurn, onOldest_idle h (fun stopped => by simp [agcEnabled, stopped])
      fun staged => by simp [agcEnabled, staged]]
  case mf =>
    rw [exec_mfStep, mfTurn, onOldest_idle h (fun stopped => by simp [mfEnabled, stopped])
      fun staged => by simp [mfEnabled, staged]]
  case str =>
    rw [exec_strStep, strTurn, onOldest_idle h (fun stopped => by simp [strEnabled, stopped])
      fun staged => by simp [strEnabled, staged]]
  case pls =>
    rw [exec_plsStep, plsTurn, onOldest_idle h (fun stopped => by simp [plsEnabled, plsReady, stopped])
      fun staged => by simp [plsEnabled, plsReady, staged]]
  case cpr =>
    rw [agentStep_cprStep, cprTurn, onOldest_idle h (fun stopped => by simp [cprEnabled, cprReady, stopped])
      fun staged => by simp [cprEnabled, cprReady, staged]]
  case dsc =>
    rw [exec_dscStep, dscTurn, onOldest_idle h (fun stopped => by simp [dscEnabled, stopped])
      fun complete => by simp [dscEnabled, complete]]
  case header =>
    have idle : plsReady s = false :=
      h.elim (fun stopped => by simp [plsReady, stopped]) fun staged => by simp [plsReady, staged]
    simp [exec, execHdrTest, execHdrDecode, idle]
  case carrier =>
    have idle : cprReady s = false :=
      h.elim (fun stopped => by simp [cprReady, stopped]) fun staged => by simp [cprReady, staged]
    simp [exec, execFreqUpdate, execPhaseRef, execMix, execPilotSymbol, idle]
  case stopped =>
    have full : inReady s = false := by simp [inReady, stopped]
    exact ⟨fun g => congrArg Host.Outcome.next (drainStep_stopped g stopped), fun i q => by simp [exec, execInBeat, full]⟩

/-! ## The step (R110, R800, R816) -/

theorem step_agenda {s : State} {a : Action} {rest : List Action} (next : s.agenda = a :: rest) :
    step s = agentStep a { s with agenda := rest } := by
  simp only [step, runAgenda, next]

theorem agentStep_present {p : Packet} {i : Instr} (decoded : decode p = .ok i) (s : State) :
    agentStep (.present p) s = exec i s := by
  simp only [agentStep, decoded]

theorem next_of_guard (ready : Bool) (s t : State) :
    ∃ u, (if ready = true then Host.Outcome.next (φ := Fault) (ρ := Refusal) s else .next t) = .next u :=
  ⟨if ready = true then s else t, (apply_ite Host.Outcome.next _ s t).symm⟩

/-- Every operation answers a next state (R800, R816). -/
theorem exec_next (i : Instr) (s : State) : ∃ t, exec i s = .next t := by
  cases i with
  | nop | commit | start | stop | softReset | forceSearch | clearCounters | reserved => exact ⟨_, rfl⟩
  | csrRead => simp only [exec, execCsrRead]; split <;> exact ⟨_, rfl⟩
  | csrWrite => simp only [exec, execCsrWrite]; split <;> exact ⟨_, rfl⟩
  | outBeat => simp only [exec, execOutBeat]; split <;> exact ⟨_, rfl⟩
  | agcStep => exact ⟨_, exec_agcStep s⟩
  | mfStep => exact ⟨_, exec_mfStep s⟩
  | strStep => exact ⟨_, exec_strStep s⟩
  | plsStep => exact ⟨_, exec_plsStep s⟩
  | dscStep => exact ⟨_, exec_dscStep s⟩
  | inBeat | hdrTest | hdrDecode | freqUpdate | mix | phaseRef | pilotSymbol => exact next_of_guard _ _ _

/-- Settles O4: the agenda's first agent acts, and only a packet that is no operation is refused. -/
theorem stepRunsPresented : Obligations.StepRunsPresented := by
  have idle (s : State) (none : s.agenda = []) : step s = .next s := by simp only [step, runAgenda, none]
  refine ⟨fun s p rest i next decoded => ?_, fun s a rest next => step_agenda next, idle, fun s => ?_⟩
  · rw [step_agenda next, agentStep_present decoded]
  · cases next : s.agenda with
    | nil => exact .inl ⟨s, idle s next⟩
    | cons a rest =>
      rw [step_agenda next]
      cases a with
      | cprStep | drain | powerOn => exact .inl ⟨_, rfl⟩
      | present p =>
        cases decoded : decode p with
        | ok i => rw [agentStep_present decoded]; exact .inl (exec_next i _)
        | error why => exact .inr ⟨p, rest, why, rfl, decoded, by simp only [agentStep, decoded]⟩

/-! ## Drain steps (R110, R722) -/

/-- A drain step's enabling condition (R110). -/
theorem drainable_iff (s : State) (len : Nat) :
    (s.ctl.running && linkFree len) = true ↔ s.ctl.running = true ∧ len < Config.depthLink := by
  rw [Bool.and_eq_true, linkFree, decide_eq_true_eq]

/-- Settles O5: the five drains to a FIFO, with an item staged and with none, and the drain to the output buffer. -/
theorem drainSteps : Obligations.DrainSteps := by
  intro s
  refine ⟨?agc, ?mf, ?str, ?pls, ?cpr, ?agcEmpty, ?mfEmpty, ?strEmpty, ?plsEmpty, ?cprEmpty, ?dsc⟩
  case agc | mf | str | pls | cpr =>
    intro it rest staged
    simp only [agentStep, drainStep, drainAgc, drainMf, drainStr, drainPls, drainCpr, staged, drainable_iff]
  case agcEmpty | mfEmpty | strEmpty | plsEmpty | cprEmpty =>
    intro empty
    simp only [agentStep, drainStep, drainAgc, drainMf, drainStr, drainPls, drainCpr, empty]
  case dsc =>
    simp only [agentStep, drainStep, drainDsc, Bool.and_eq_true, decide_eq_true_eq, and_assoc]
    rfl

end Sys2Proof.Steps

namespace Sys2Proof.Encoding

open Sys2Proof.Steps

/-! ## The fields of a packet (R10, R170; notes/assumptions/2.md) -/

/-- A field of a word's number is the number of the word's slice (R10). -/
theorem field_toNat {n : Nat} (w : BitVec n) (lo len : Nat) : field w.toNat lo len = (w.extractLsb' lo len).toNat := by
  rw [field, BitVec.extractLsb'_toNat, Nat.shiftRight_eq_div_pow]

/-- The word of a unit packet: unit id, second-operation bit, complex operand, high operand word. -/
def unitWord (code : BitVec 4) (sel : BitVec 1) (z : Cplx) (hi : BitVec 16) : BitVec 88 :=
  hi ++ z.im ++ z.re ++ (0#3 ++ sel ++ code)

/-- The decoder reads a unit packet by its word. -/
theorem decode_encodeUnit (code : BitVec 4) (sel : BitVec 1) (z : Cplx) (hi : BitVec 16) :
    decode (encodeUnit code sel z hi) = decodeUnit (unitWord code sel z hi) := rfl

section UnitWord

variable (code : BitVec 4) (sel : BitVec 1) (z : Cplx) (hi : BitVec 16)

@[simp] theorem unitWord_id : field (unitWord code sel z hi).toNat 0 4 = code.toNat := by
  rw [field_toNat, unitWord, BitVec.extractLsb'_append_eq_of_add_le (by decide),
    BitVec.extractLsb'_append_eq_of_add_le (by decide), BitVec.extractLsb'_eq_self]

@[simp] theorem unitCplx_unitWord : unitCplx (unitWord code sel z hi) = z := by
  have re : (unitWord code sel z hi).extractLsb' 8 32 = z.re := by
    rw [unitWord, BitVec.extractLsb'_append_eq_of_le (by decide), BitVec.extractLsb'_append_eq_of_add_le (by decide),
      BitVec.extractLsb'_eq_self]
  have im : (unitWord code sel z hi).extractLsb' 40 32 = z.im := by
    rw [unitWord, BitVec.extractLsb'_append_eq_of_le (by decide), BitVec.extractLsb'_append_eq_of_le (by decide),
      BitVec.extractLsb'_append_eq_of_add_le (by decide), BitVec.extractLsb'_eq_self]
  rw [unitCplx, re, im]

/-- The slices above bit 72 are slices of the high operand word. -/
theorem unitWord_high (lo len : Nat) :
    (unitWord code sel z hi).extractLsb' (72 + lo) len = hi.extractLsb' lo len := by
  rw [unitWord, BitVec.extractLsb'_append_eq_of_le (by omega), BitVec.extractLsb'_append_eq_of_le (by omega),
    BitVec.extractLsb'_append_eq_of_le (by omega)]
  congr 1
  omega

end UnitWord

/-! ## Decoding a unit packet with operands (R506, R520; notes/assumptions/2.md) -/

theorem decode_encode_mix (z : Cplx) {pos : BitVec 16} (bound : pos.toNat < 33282) :
    decode (encode (.mix z pos)) = .ok (.mix z pos) := by
  have high : (unitWord 6#4 0#1 z pos).extractLsb' 72 16 = pos :=
    (unitWord_high 6#4 0#1 z pos 0 16).trans BitVec.extractLsb'_eq_self
  simp [encode, decode_encodeUnit, decodeUnit, field_toNat _ 72, high, bound]

theorem decode_encode_pilotSymbol {blk o : BitVec 8} (s1 : Cplx) (block : blk.toNat < 22) (symbol : o.toNat < 36) :
    decode (encode (.pilotSymbol blk o s1)) = .ok (.pilotSymbol blk o s1) := by
  have low : (unitWord 8#4 0#1 s1 (o ++ blk)).extractLsb' 72 8 = blk := by
    rw [unitWord_high 8#4 0#1 s1 (o ++ blk) 0 8, BitVec.extractLsb'_append_eq_right]
  have high : (unitWord 8#4 0#1 s1 (o ++ blk)).extractLsb' 80 8 = o := by
    rw [unitWord_high 8#4 0#1 s1 (o ++ blk) 8 8, BitVec.extractLsb'_append_eq_left]
  simp [encode, decode_encodeUnit, decodeUnit, field_toNat _ 72, field_toNat _ 80, low, high, block, symbol]

/-! ## The encoder's inverse (R140 to R142, R150, R170) -/

theorem decode_encodeCmd (w : BitVec 32) : decode (encodeCmd w) = .ok (decodeCmd w) := rfl

theorem decode_bus_write {off : BitVec 12} {size : Nat} (other : isCommandWrite off size = false) (w : BitVec 32) :
    decode (.bus .write off size w) = .ok (.csrWrite off size w) := by
  simp [decode, other]

theorem decode_beat (i q : F32) : decode (.inBeat (q ++ i)) = .ok (.inBeat i q) := by
  rw [decode, BitVec.extractLsb'_append_eq_right, BitVec.extractLsb'_append_eq_left]

/-- Settles O1, by cases on the operation: one without operands has one packet, whose decoding is evaluated. -/
theorem decodeInvertsEncode : Obligations.DecodeInvertsEncode := by
  intro i wf
  cases i with
  | nop | commit | start | stop | softReset | forceSearch | clearCounters => rfl
  | reserved w => rw [encode, decode_encodeCmd, decodeCmd_of_reserved wf]
  | csrRead | outBeat => rfl
  | csrWrite off size w => exact decode_bus_write (by simpa [WellFormed] using wf) w
  | inBeat i q => exact decode_beat i q
  | agcStep | mfStep | strStep | hdrTest | hdrDecode | plsStep | freqUpdate | phaseRef | dscStep => rfl
  | mix z pos => exact decode_encode_mix z (by simpa [WellFormed] using wf)
  | pilotSymbol blk o s1 =>
    obtain ⟨block, symbol⟩ : blk.toNat < 22 ∧ o.toNat < 36 := by simpa [WellFormed] using wf
    exact decode_encode_pilotSymbol s1 block symbol

/-! ## The decoder's answers (R150, R151) -/

/-- A word is answered as reserved only if it names no defined command (R151). -/
theorem decodeCmd_wellFormed (w : BitVec 32) : WellFormed (decodeCmd w) = true := by
  cases reserved : reservedWord w with
  | true => rw [decodeCmd_of_reserved reserved]; exact reserved
  | false =>
    obtain ⟨op, arg⟩ : field w.toNat 24 8 ≤ 6 ∧ field w.toNat 0 24 = 0 := by simpa [reservedWord] using reserved
    rw [decodeCmd, if_neg (not_not.mpr arg)]
    interval_cases field w.toNat 24 8 <;> rfl

/-- A unit packet is an operation only with its operands in their bounds (R506, R520). -/
theorem wellFormed_of_decodeUnit {w : BitVec 88} {i : Instr} (h : decodeUnit w = .ok i) : WellFormed i = true := by
  unfold decodeUnit at h
  split at h
  case h_7 =>
    split at h
    · next bound => cases h; simpa [WellFormed, field_toNat] using bound
    · cases h
  case h_9 =>
    split at h
    · next bounds => cases h; simpa [WellFormed, field_toNat] using bounds
    · cases h
  case h_4 => split at h <;> cases h <;> rfl
  all_goals cases h <;> rfl

/-- Settles O2, by cases on the packet: only a command word and a unit packet are checked. -/
theorem decodedIsWellFormed : Obligations.DecodedIsWellFormed := by
  intro p i h
  cases p with
  | bus kind off size w =>
    cases kind with
    | read => cases h; rfl
    | write =>
      rw [decode] at h
      split at h
      · cases h; exact decodeCmd_wellFormed w
      · next other => cases h; simpa [WellFormed] using other
  | inBeat data => cases h; rfl
  | outTake => cases h; rfl
  | unit w => exact wellFormed_of_decodeUnit h

/-! ## The opcode table's rows (R150, R170, R41) -/

/-- A row of 32 bits is a command word. -/
theorem decodeTableWord_cmd (w : Nat) : decodeTableWord 32 w = some (decodeCmd (BitVec.ofNat 32 w)) := rfl

/-- A row of 64 bits is an input beat, I in the low half. -/
theorem decodeTableWord_beat (w : Nat) :
    decodeTableWord 64 w =
      some (.inBeat ((BitVec.ofNat 64 w).extractLsb' 0 32) ((BitVec.ofNat 64 w).extractLsb' 32 32)) := rfl

/-- Settles O3: the defined commands by evaluation, the reserved words by `decodeCmd_of_reserved`, the beat by its halves,
the unit operations by evaluation. -/
theorem tableWordsDecode : Obligations.TableWordsDecode := by
  have reserved {w : Nat} (h : reservedWord (BitVec.ofNat 32 w) = true) :
      decodeTableWord 32 w = some (.reserved (BitVec.ofNat 32 w)) := by
    rw [decodeTableWord_cmd, decodeCmd_of_reserved h]
  exact ⟨rfl, rfl, rfl, rfl, rfl, rfl, rfl, reserved (by decide), reserved (by decide), decodeTableWord_beat _, rfl, rfl, rfl⟩

end Sys2Proof.Encoding

namespace Sys2Proof.Sync

open Sys2Proof.Machine Sys2Proof.Laws Sys2Proof.Groups

/-! ## A force request that acts (R529, R530) -/

/-- An enabled process step takes the oldest item of its queue (R110). -/
theorem onOldest_taken {α : Type} {queue : State → List α} {enabled : State → Bool} {run : α → List α → State → State}
    {s : State} {x : α} {rest : List α} (oldest : queue s = x :: rest) (ready : enabled s = true) :
    onOldest queue enabled run s = run x rest s := by
  simp only [onOldest, oldest, ready, if_true]

/-- While the synchroniser searches, carrier recovery's request is only cleared (R530). -/
theorem carrierForce_searching {s : State} (searching : s.pls.state = .searching) :
    carrierForce s = { s with pls := { s.pls with cforce := false } } := by
  cases asked : s.pls.cforce with
  | true => simp [carrierForce, leaveLock, asked, searching]
  | false =>
    simp only [carrierForce, asked, Bool.false_eq_true, if_false]
    rw [← asked]

/-- A request that acts: FORCE_CHECK clears both requests and enters the search once, whoever asked (R530). -/
theorem forceCheck_forced {s : State} (h : forced s) :
    forceCheck s = enterSearch { s with pls := { s.pls with force := false, cforce := false } } := by
  obtain ⟨synced, asked⟩ := h
  cases host : s.pls.force with
  | true =>
    have left : hostForce s = enterSearch { s with pls := { s.pls with force := false } } := by
      simp only [hostForce, leaveLock, host, synced, if_true, if_false]
    rw [forceCheck, left, carrierForce_searching rfl]
    rfl
  | false =>
    obtain ⟨carrier, named⟩ := asked.resolve_left (by simp [host])
    simp only [forceCheck, hostForce, carrierForce, leaveLock, host, carrier, named, synced, Bool.false_eq_true, if_true,
      if_false]

/-- With a window that is not full, SEARCH_STEP tests nothing (R523). -/
theorem searchStep_filling {s : State} (filling : s.pls.fill ≠ 90) (idx : Idx) : searchStep idx s = s := if_neg filling

/-- Settles O39: after `forceCheck_forced` the synchroniser searches with one symbol in its window. -/
theorem forcedSearch : Obligations.ForcedSearch := by
  intro s it rest items running unstaged acts
  have ready : plsEnabled s = true := by simp [plsEnabled, plsReady, items, running, unstaged]
  rw [exec_plsStep, plsTurn, onOldest_taken items ready]
  have forcedHere : forced { s with fifo := { s.fifo with l34 := rest } } := acts
  rw [plsProcess, forceCheck_forced forcedHere]
  refine congrArg Host.Outcome.next (searchStep_filling ?filling _)
  case filling => exact (by decide : 1 ≠ 90)

end Sys2Proof.Sync

namespace Sys2Proof.Commands

open Sys2Proof.Machine Sys2Proof.Laws

/-! ## The checks of COMMIT (R221) -/

/-- Bit `k` of the fail mask is set exactly when check `k` failed. -/
theorem testBit_failBits (checks : List Bool) (k : Nat) : (failBits checks).testBit k = !checks.getD k true := by
  induction checks generalizing k with
  | nil => simp [failBits]
  | cons ok rest ih =>
    cases k with
    | zero => cases ok <;> simp [failBits, Nat.testBit_zero, Nat.add_mod]
    | succ k =>
      have half : failBits (ok :: rest) / 2 = failBits rest := by
        cases ok <;> simp [failBits]; omega
      rw [Nat.testBit_succ, half, ih, List.getD_cons_succ]

/-- The mask of R221, bit by bit. -/
theorem getLsbD_cfgMask (c : Cfg) {k : Nat} (bit : k < 17) : (cfgMask c).getLsbD k = !(cfgChecks c).getD k true := by
  rw [cfgMask, BitVec.getLsbD_ofNat, testBit_failBits, decide_eq_true bit, Bool.true_and]

/-- The tap count is checked only where delay, branch count and samples per symbol are legal (R221). -/
theorem not_tapsOk (c : Cfg) :
    (!tapsOk c) = (!(!delayOk c) && !(!nfiltsOk c) && !(!spsOk c)
      && decide (65537 < 2 * halfSpan c.rrcDelay.toNat c.sps * c.rrcNfilts.toNat + 1)) := by
  have tooLong : (!decide (tapLen (halfSpan c.rrcDelay.toNat c.sps) c.rrcNfilts.toNat ≤ Config.tapsMax)) =
      decide (65537 < 2 * halfSpan c.rrcDelay.toNat c.sps * c.rrcNfilts.toNat + 1) := by
    simp only [← decide_not, not_le]
    rfl
  rw [tapsOk, Bool.not_or, Bool.not_not, tooLong, Bool.not_not, Bool.not_not, Bool.not_not]

/-- The modulation of R221: a MODCOD in range, and no short frame of rate 9/10. -/
theorem modcodFrameOk_eq (c : Cfg) :
    modcodFrameOk c = decide (1 ≤ c.modcod.toNat ∧ c.modcod.toNat ≤ 28
      ∧ ¬ (c.frameSize = 1#1 ∧ c.modcod.toNat ∈ [11, 17, 23, 28])) := by
  rw [Bool.eq_iff_iff]
  simp [modcodFrameOk, and_assoc]

/-- Settles O13: each bit of the mask by `getLsbD_cfgMask`, and its check written out. -/
theorem commitChecks : Obligations.CommitChecks := by
  intro c
  have bit {k : Nat} (h : k < 17) := getLsbD_cfgMask c h
  refine ⟨bit (k := 0) (by decide), ?delay, ?nfilts, bit (k := 3) (by decide), ?taps, bit (k := 5) (by decide),
    bit (k := 6) (by decide), bit (k := 7) (by decide), bit (k := 8) (by decide), bit (k := 9) (by decide), ?modcod,
    bit (k := 11) (by decide), bit (k := 12) (by decide), bit (k := 13) (by decide), ?counts, ?dist,
    bit (k := 16) (by decide)⟩
  case delay | nfilts | counts | dist =>
    rw [Bool.decide_and]
    exact bit (by decide)
  case taps =>
    simp only [bit (k := 1) (by decide), bit (k := 2) (by decide), bit (k := 3) (by decide), bit (k := 4) (by decide)]
    exact not_tapsOk c
  case modcod =>
    rw [← modcodFrameOk_eq]
    exact bit (by decide)

/-! ## The effects of the commands (R220 to R227, R902) -/

/-- A derived configuration has a tap, so its delay line has elements (R225, R902). -/
theorem mfReset_deriveAct (c : Cfg) : mfReset (deriveAct c) = ⟨List.replicate (2 * (deriveAct c).kh + 1) czero, []⟩ := by
  rw [mfReset, if_neg (show (deriveAct c).l ≠ 0 from Nat.succ_ne_zero _)]

/-- A COMMIT of the stopped block is admitted (R221). -/
theorem exec_commit_stopped {s : State} (stopped : s.ctl.running = false) :
    exec .commit s = .next (answerOkay (commitEffect s)) := by
  simp only [exec, execCommit, cmdCommit, stopped, Bool.false_eq_true, if_false]

/-- Settles O14: an admitted COMMIT by the verdict of its checks. -/
theorem commitResult : Obligations.CommitResult := by
  refine ⟨fun s stopped legal => ?_, fun s stopped illegal => ?_⟩
  · rw [exec_commit_stopped stopped, commitEffect, if_pos legal, resetUnits, mfReset_deriveAct]
    rfl
  · rw [exec_commit_stopped stopped, commitEffect, if_neg illegal]
    rfl

/-- Settles O15: each command is its own update, with the answer of the write; START is admitted. -/
theorem simpleCommands : Obligations.SimpleCommands := by
  refine fun s => ⟨rfl, fun valid => ?_, rfl, rfl, rfl⟩
  rw [exec, execStart, cmdStart, if_pos valid]
  rfl

/-- Settles O16: the state is RESET_UNITS' own (R902); how much of its delay line is in use is R63's. -/
theorem softResetResets : Obligations.SoftResetResets := by
  refine fun s => ⟨_, rfl, rfl, ?_⟩
  cases valid : s.ctl.cfgValid with
  | false => exact (delayLine_invalid (answerOkay (cmdSoftReset s)) valid).trans (by simp)
  | true => exact (delayLine_valid (answerOkay (cmdSoftReset s)) valid).trans (by simp [cmdSoftReset, mfReset])

end Sys2Proof.Commands

namespace Sys2Proof.Coefficients

open Sys2Proof.Machine

/-! ## The coefficients of a configuration (R310 to R313) -/

/-- Branch sums mirror: branch `b` and branch `N - b` share one (R312). -/
theorem branchNorm_mirror (p : Nat → F32) (kh : Nat) {n b : Nat} (within : b < n) :
    branchNorm p kh n b = branchNorm p kh n ((n - b) % n) := by
  obtain rfl | positive := Nat.eq_zero_or_pos b
  · rw [Nat.sub_zero, Nat.mod_self]
  rw [Nat.mod_eq_of_lt (by omega)]
  unfold branchNorm
  obtain lower | middle | upper : b < n - b ∨ b = n - b ∨ n - b < b := by omega
  · rw [if_pos (by omega), if_neg (by omega), Nat.sub_sub_self within.le]
  · simp only [← middle, ite_self]
  · rw [if_neg (by omega), if_pos (by omega)]

/-- The branch of the mirrored tap (R311). -/
theorem mirror_mod {kh n i : Nat} (branches : 1 ≤ n) (tap : i < tapLen kh n) : (tapLen kh n - 1 - i) % n = (n - i % n) % n := by
  have whole : tapLen kh n - 1 - i + i = 2 * kh * n := by unfold tapLen at *; omega
  refine Nat.ModEq.add_right_cancel' (i % n) ?_
  calc tapLen kh n - 1 - i + i % n
      ≡ tapLen kh n - 1 - i + i [MOD n] := (Nat.mod_modEq i n).add_left _
    _ ≡ n [MOD n] := by rw [whole, Nat.ModEq, Nat.mul_mod_left, Nat.mod_self]
    _ = n - i % n + i % n := (Nat.sub_add_cancel (Nat.mod_lt i branches).le).symm

/-- A branch sum as the guarded fold of R312. -/
theorem branchSum_eq_foldl (p : Nat → F32) (kh n b : Nat) :
    branchSum p kh n b = (List.range (2 * kh + 1)).foldl
      (fun sum k => if k * n + b < tapLen kh n then fadd sum (p (k * n + b)) else sum) f0 := by
  simp only [branchSum, fsum, branchTerms, List.foldl_map, List.foldl_filter, decide_eq_true_eq]

/-- The prototype is symmetric (R310, P2). -/
theorem rrcProto_mirror (beta : F32) (delay : Nat) (sps : F32) {n i : Nat} (tap : i < tapLen (halfSpan delay sps) n) :
    rrcProto beta delay sps n i = rrcProto beta delay sps n (tapLen (halfSpan delay sps) n - 1 - i) := by
  unfold rrcProto
  split
  · unfold protoSym
    congr 1
    omega
  · rfl

/-- A normalised coefficient: the tap over its branch sum (R312). -/
theorem normTaps_getD (p : Nat → F32) {kh n i : Nat} (branches : 1 ≤ n) (tap : i < tapLen kh n) :
    (normTaps p kh n).getD i 0#32 = fdiv (p i) (branchNorm p kh n (i % n)) := by
  simp [normTaps, List.getD_eq_getElem?_getD, tap, Nat.mod_lt i branches]

/-- Exact symmetry of the coefficients (R313): both taps and both branch sums mirror. -/
theorem normTaps_mirror {p : Nat → F32} {kh n i : Nat} (branches : 1 ≤ n) (tap : i < tapLen kh n)
    (symmetric : p i = p (tapLen kh n - 1 - i)) :
    (normTaps p kh n).getD i 0#32 = (normTaps p kh n).getD (tapLen kh n - 1 - i) 0#32 := by
  rw [normTaps_getD p branches tap, normTaps_getD p branches (by omega), ← symmetric, mirror_mod branches tap,
    ← branchNorm_mirror p kh (Nat.mod_lt i branches)]

/-- Settles O27: sizes and gains are the definitions; the coefficients by `normTaps_getD` and `normTaps_mirror`. -/
theorem derivedCoefficients : Obligations.DerivedCoefficients := by
  intro c
  refine ⟨rfl, rfl, rfl, rfl, ?length, fun branches i tap => ?mirror, fun branches i tap => ?tap, fun b lower => ?lower,
    fun b upper _ => ?upper, rfl, rfl⟩
  case length => simp [deriveAct, normTaps]
  case mirror => exact normTaps_mirror branches tap (rrcProto_mirror _ _ _ tap)
  case tap => exact normTaps_getD _ branches tap
  case lower => exact (if_pos lower).trans (branchSum_eq_foldl _ _ _ b)
  case upper => exact (if_neg (not_le.mpr upper)).trans (if_pos (by omega)).symm

end Sys2Proof.Coefficients

namespace Sys2Proof.Registers

open Sys2Proof.Machine Sys2Proof.Laws

/-! ## Refused accesses (R202, R203) -/

/-- Every register's offset is a multiple of 4 (R33). -/
theorem csrOffset_aligned (r : Csr) : (csrOffset r).toNat % 4 = 0 := by cases r <;> rfl

/-- An access of another size, misaligned or unmapped reaches no register (R202, R203). -/
theorem admitted_eq_none {off : BitVec 12} {size : Nat}
    (refused : size ≠ 4 ∨ off.toNat % 4 ≠ 0 ∨ ∀ r : Csr, csrOffset r ≠ off) : admitted off size = none := by
  refine Option.eq_none_iff_forall_ne_some.mpr fun r reached => ?_
  obtain ⟨word, rfl⟩ := admitted_eq_some reached
  obtain other | misaligned | unmapped := refused
  · exact other word
  · exact misaligned (csrOffset_aligned r)
  · exact unmapped r rfl

/-- Settles O7: an access that reaches no register is answered by `readError` and `writeError`. -/
theorem refusedAccess : Obligations.RefusedAccess := by
  intro s off size w refused
  simp only [exec, execCsrRead, execCsrWrite, admitted_eq_none refused]
  exact ⟨rfl, rfl⟩

/-! ## The value of a register (R35 to R49) -/

theorem getLsbD_bit1 (b : Bool) : (bit1 b).getLsbD 0 = b := by cases b <;> rfl

/-- `STATUS`, field by field (R37). -/
theorem status_fields (s : State) :
    (csrValue s .status).extractLsb' 0 2 = syncCode s.pls.state
      ∧ (csrValue s .status).getLsbD 2 = s.ctl.running ∧ (csrValue s .status).getLsbD 3 = s.ctl.cfgValid
      ∧ (csrValue s .status).getLsbD 4 = strDegraded s ∧ (csrValue s .status).getLsbD 5 = s.cpr.freqValid
      ∧ (csrValue s .status).getLsbD 6 = inReady s ∧ (csrValue s .status).getLsbD 7 = outValid s
      ∧ (csrValue s .status).extractLsb' 8 24 = 0#24 := by
  have fields (o i f g v r : Bool) (y : BitVec 2) :
      let w := 0#24 ++ bit1 o ++ bit1 i ++ bit1 f ++ bit1 g ++ bit1 v ++ bit1 r ++ y
      w.extractLsb' 0 2 = y ∧ w.getLsbD 2 = r ∧ w.getLsbD 3 = v ∧ w.getLsbD 4 = g ∧ w.getLsbD 5 = f ∧ w.getLsbD 6 = i
        ∧ w.getLsbD 7 = o ∧ w.extractLsb' 8 24 = 0#24 := by
    simp [-Nat.reduceAdd, -BitVec.getLsbD_eq_getElem, BitVec.getLsbD_append, getLsbD_bit1,
      BitVec.extractLsb'_append_eq_of_add_le, BitVec.extractLsb'_append_eq_of_le]
  exact fields ..

/-- `CMD_ERR_INFO`, field by field (R39). -/
theorem cmdErrInfo_fields (s : State) :
    (csrValue s .cmdErrInfo).extractLsb' 0 8 = s.ctl.cmdErrOpcode
      ∧ (csrValue s .cmdErrInfo).extractLsb' 8 2 = s.ctl.cmdErrReason
      ∧ (csrValue s .cmdErrInfo).extractLsb' 10 22 = 0#22 := by
  have fields (reason : BitVec 2) (op : BitVec 8) :
      let w := 0#22 ++ reason ++ op
      w.extractLsb' 0 8 = op ∧ w.extractLsb' 8 2 = reason ∧ w.extractLsb' 10 22 = 0#22 := by
    simp [-Nat.reduceAdd, BitVec.extractLsb'_append_eq_of_add_le, BitVec.extractLsb'_append_eq_of_le]
  exact fields ..

/-- `LAST_PLS`, field by field (R46). -/
theorem lastPls_fields (s : State) :
    (csrValue s .lastPls).extractLsb' 0 7 = s.live.lastPls ∧ (csrValue s .lastPls).extractLsb' 8 7 = s.live.lastDist := by
  have fields (dist pls : BitVec 7) :
      let w := 0#17 ++ dist ++ 0#1 ++ pls
      w.extractLsb' 0 7 = pls ∧ w.extractLsb' 8 7 = dist := by
    simp [-Nat.reduceAdd, BitVec.extractLsb'_append_eq_of_add_le, BitVec.extractLsb'_append_eq_of_le]
  exact fields ..

/-- `SYNC_CNT`, field by field (R48). -/
theorem syncCnt_fields (s : State) :
    (csrValue s .syncCnt).extractLsb' 0 8 = s.pls.miss ∧ (csrValue s .syncCnt).extractLsb' 8 8 = s.pls.mm
      ∧ (csrValue s .syncCnt).extractLsb' 16 16 = s.pls.epoch.extractLsb' 0 16 := by
  have fields (epoch : BitVec 16) (mm miss : BitVec 8) :
      let w := epoch ++ mm ++ miss
      w.extractLsb' 0 8 = miss ∧ w.extractLsb' 8 8 = mm ∧ w.extractLsb' 16 16 = epoch := by
    simp [-Nat.reduceAdd, BitVec.extractLsb'_append_eq_of_add_le, BitVec.extractLsb'_append_eq_of_le]
  exact fields ..

/-- `TAP_DATA`: the coefficient `TAP_INDEX` names, if there is one (R49). -/
theorem csrValue_tapData (s : State) :
    csrValue s .tapData = if s.ctl.cfgValid = true ∧ s.ctl.tapIndex.toNat < s.act.l then
      s.act.c.getD s.ctl.tapIndex.toNat 0#32 else 0#32 := by
  simp only [csrValue, tapData, Bool.and_eq_true, decide_eq_true_eq]

/-- `TAP_COUNT`: the low 17 bits of the count (R49; notes/assumptions/21.md). -/
theorem csrValue_tapCount (s : State) :
    csrValue s .tapCount = if s.ctl.cfgValid = true then BitVec.ofNat 32 (s.act.l % 2 ^ 17) else 0#32 := by
  have low : (BitVec.ofNat 17 s.act.l).setWidth 32 = BitVec.ofNat 32 (s.act.l % 2 ^ 17) := by
    simp [← BitVec.toNat_inj]
  rw [← low]
  rfl

/-! ## The side effect of a read (R104) -/

/-- A `_LO` half latches the upper half of its value; no other read has an effect (R104, R105). -/
theorem csrReadEffect_eq (s : State) (r : Csr) :
    csrReadEffect s r = { s with holds :=
      { sampleHi := if r = .sampleCntLo then hi32 s.agc.sampleIdx else s.holds.sampleHi
        symbolHi := if r = .symbolCntLo then hi32 s.pls.symbolIdx else s.holds.symbolHi
        hdrSymHi := if r = .lastHdrSymLo then hi32 s.live.lastHdrSym else s.holds.hdrSymHi
        hdrSmpHi := if r = .lastHdrSmpLo then hi32 s.live.lastHdrSmp else s.holds.hdrSmpHi } } := by
  cases r <;> rfl

/-- The two halves of a 64-bit value. -/
theorem hi32_append_lo32 (v : Idx) : hi32 v ++ lo32 v = v := BitVec.extractLsb'_append_extractLsb' (w := 32) (len := 32)

/-- A read of a `_LO` half and then of its `_HI` half gives one value, the one at the first read (R104). -/
theorem read_low_high (s : State) {lo hi : Csr} {v : Idx} (low : csrValue s lo = lo32 v)
    (latched : ∀ p : Port, csrValue { csrReadEffect s lo with port := p } hi = hi32 v) :
    ∃ t u, exec (.csrRead (csrOffset lo) 4) s = .next t ∧ exec (.csrRead (csrOffset hi) 4) t = .next u
      ∧ u.port.bus.okay = true ∧ u.port.bus.rdata ++ t.port.bus.rdata = v := by
  refine ⟨_, _, exec_read s lo, exec_read _ hi, rfl, ?_⟩
  show csrValue _ hi ++ csrValue s lo = v
  rw [low, latched, hi32_append_lo32]

/-- Settles O8: the offsets by cases on the register, a read by `exec_read` and `csrReadEffect_eq`, the values by their
definition and the lemmas on fields above, the pairs by `read_low_high`. -/
theorem admittedRead : Obligations.AdmittedRead := by
  refine ⟨?offsets, ?read, ?halves, ?identification, ?status, ?events, ?configuration, ?live, ?pairs⟩
  case offsets =>
    intro r
    cases r <;> rfl
  case read =>
    intro s r
    rw [exec_read, csrReadEffect_eq]
    rfl
  case halves => exact fun s => ⟨rfl, rfl, rfl, rfl, rfl, rfl, rfl, rfl, rfl⟩
  case identification =>
    refine fun s => ⟨rfl, rfl, fun w => ⟨?_, ?_⟩⟩
    · exact exec_write s w (r := .id) nofun
    · exact exec_write s w (r := .version) nofun
  case status =>
    intro s
    obtain ⟨state, running, valid, degraded, freq, ready, out, reserved⟩ := status_fields s
    refine ⟨state.trans ?_, running, valid, degraded, freq, ready, out.trans ?_, reserved⟩
    · cases s.pls.state <;> rfl
    · cases frames : s.dsc.outbuf <;> simp [outValid, frames]
  case events =>
    intro s
    obtain ⟨opcode, reason, reserved⟩ := cmdErrInfo_fields s
    exact ⟨setWidth_eq_zero_append 15 17 _, opcode, reason, reserved, setWidth_eq_zero_append 22 10 _,
      setWidth_eq_zero_append 22 10 _, setWidth_eq_zero_append 22 10 _, rfl, rfl, rfl, rfl, rfl⟩
  case configuration =>
    exact fun s => ⟨rfl, rfl, rfl, rfl, rfl, rfl, setWidth_eq_zero_append 24 8 _, setWidth_eq_zero_append 22 10 _, rfl, rfl, rfl,
      rfl, rfl, rfl, setWidth_eq_zero_append 27 5 _, setWidth_eq_zero_append 31 1 _, setWidth_eq_zero_append 14 18 _,
      setWidth_eq_zero_append 16 16 _, setWidth_eq_zero_append 30 2 _, rfl, setWidth_eq_zero_append 24 8 _,
      setWidth_eq_zero_append 24 8 _, setWidth_eq_zero_append 26 6 _, rfl⟩
  case live =>
    intro s
    obtain ⟨pls, dist⟩ := lastPls_fields s
    obtain ⟨miss, mm, epoch⟩ := syncCnt_fields s
    exact ⟨pls, dist, lastPls_reserved s, setWidth_eq_zero_append 16 16 _, rfl, rfl, rfl, rfl, rfl, rfl, rfl, rfl, miss, mm,
      epoch, setWidth_eq_zero_append 15 17 _, csrValue_tapData s, csrValue_tapCount s, rfl, rfl⟩
  case pairs =>
    intro s q pair
    simp only [List.mem_cons, List.not_mem_nil, or_false] at pair
    obtain rfl | rfl | rfl | rfl := pair <;> exact read_low_high s rfl fun _ => rfl

end Sys2Proof.Registers

namespace Sys2Proof.Ports

open Sys2Proof.Machine Sys2Proof.Registers

/-! ## Stream ports (R171, R204, R205) -/

/-- `IN_READY` of R50: the block runs and `F_IN` has room. -/
theorem inReady_iff (s : State) :
    inReady s = true ↔ s.ctl.running = true ∧ s.fifo.fIn.length < Config.depthIn := by
  rw [inReady, Bool.and_eq_true, decide_eq_true_eq]

/-- The beat of symbol `k`, field by field (R171). -/
theorem beatOf_fields (f : Frame) (k : Nat) :
    (beatOf f k).data.extractLsb' 0 32 = (f.sym.getD k czero).re
      ∧ (beatOf f k).data.extractLsb' 32 32 = (f.sym.getD k czero).im
      ∧ (beatOf f k).user.getLsbD 0 = decide (k = 0) ∧ (beatOf f k).user.getLsbD 1 = decide (k + 1 = f.count)
      ∧ (beatOf f k).user.extractLsb' 2 7 = f.pls := by
  have data (re im : F32) : (im ++ re).extractLsb' 0 32 = re ∧ (im ++ re).extractLsb' 32 32 = im := by
    simp [-Nat.reduceAdd, BitVec.extractLsb'_append_eq_of_add_le, BitVec.extractLsb'_append_eq_of_le]
  have user (pls : BitVec 7) (first last : Bool) :
      let w := pls ++ bit1 last ++ bit1 first
      w.getLsbD 0 = first ∧ w.getLsbD 1 = last ∧ w.extractLsb' 2 7 = pls := by
    simp [-Nat.reduceAdd, -BitVec.getLsbD_eq_getElem, BitVec.getLsbD_append, getLsbD_bit1,
      BitVec.extractLsb'_append_eq_of_le]
  obtain ⟨re, im⟩ := data (f.sym.getD k czero).re (f.sym.getD k czero).im
  exact ⟨re, im, user ..⟩

/-- Settles O12: the input beat by `inReady_iff`, the output beat's fields by `beatOf_fields`. -/
theorem streamBeatsTaken : Obligations.StreamBeatsTaken := by
  refine ⟨fun s i q => ?_, fun s empty => ?_, fun s f rest frames => ⟨beatOf f s.dsc.drain, ?_, beatOf_fields f _⟩⟩
  · simp only [exec, execInBeat, inReady_iff, apply_ite Host.Outcome.next]
  · simp only [exec, execOutBeat, empty]
  · simp only [exec, execOutBeat, frames]
    split <;> rfl

end Sys2Proof.Ports

namespace Sys2Proof.Numerics

open Sys2Proof.Machine

/-! ## Bounds on a rounded result (R13) -/

/-- Rounding keeps an upper bound that is itself a binary32 value. -/
theorem roundsTo_le {r c : F32} {x : ℝ} (h : RoundsTo r x) (fin : isfinite r = true) (fc : isfinite c = true)
    (le : x ≤ fval c) : fval r ≤ fval c := by
  have near := h.nearest fin c fc
  rw [abs_of_nonneg (sub_nonneg.mpr le)] at near
  have real : (fval r : ℝ) ≤ fval c := by linarith [le_abs_self ((fval r : ℝ) - x)]
  exact_mod_cast real

/-- Rounding keeps a lower bound that is itself a binary32 value. -/
theorem le_roundsTo {r c : F32} {x : ℝ} (h : RoundsTo r x) (fin : isfinite r = true) (fc : isfinite c = true)
    (le : fval c ≤ x) : fval c ≤ fval r := by
  have near := h.nearest fin c fc
  rw [abs_of_nonpos (sub_nonpos.mpr le)] at near
  have real : (fval c : ℝ) ≤ fval r := by linarith [neg_le_abs ((fval r : ℝ) - x)]
  exact_mod_cast real

/-- The magnitude of a finite value is at most the greatest one. -/
theorem abs_fval_le {a : F32} (ha : isfinite a = true) : |(fval a : ℝ)| ≤ 2 ^ 128 - 2 ^ 104 := by
  have below : (places (fmag a) : ℝ) ≤ places 0x7F7FFFFF :=
    places_cast_le (Nat.le_of_lt_succ (isfinite_iff.mp ha))
  have magnitude : |(fval a : ℝ)| = places (fmag a) * 2 ^ (-149 : ℤ) := by
    rw [fval_eq_places, mul_assoc, abs_mul, abs_signOf, one_mul, abs_of_nonneg (by positivity)]
  rw [magnitude, ← places_greatest]
  exact mul_le_mul_of_nonneg_right below (by positivity)

/-- A number rounded from between two finite values is finite and between them. -/
theorem roundsTo_between {r lo hi : F32} {x : ℝ} (h : RoundsTo r x) (flo : isfinite lo = true) (fhi : isfinite hi = true)
    (above : fval lo ≤ x) (below : x ≤ fval hi) : isfinite r = true ∧ fval lo ≤ fval r ∧ fval r ≤ fval hi := by
  obtain ⟨least, -⟩ := abs_le.mp (abs_fval_le flo)
  obtain ⟨-, greatest⟩ := abs_le.mp (abs_fval_le fhi)
  have fin : isfinite r = true := h.finite (abs_lt.mpr ⟨by linarith, by linarith⟩)
  exact ⟨fin, le_roundsTo h fin flo above, roundsTo_le h fin fhi below⟩

/-- What compares has values in that order. -/
theorem fval_le_of_fle {a b : F32} (h : fle a b = true) : fval a ≤ fval b :=
  have ⟨na, nb⟩ := isnan_of_fle h
  fval_le_fval.mpr ((fle_iff na nb).mp h)

theorem fval_lt_of_flt {a b : F32} (h : flt a b = true) : fval a < fval b :=
  have ⟨na, nb⟩ := isnan_of_flt h
  fval_lt_fval.mpr ((flt_iff na nb).mp h)

/-- A number between two finite ones is finite. -/
theorem isfinite_of_between {lo v hi : F32} (flo : isfinite lo = true) (fhi : isfinite hi = true) (above : fle lo v = true)
    (below : fle v hi = true) : isfinite v = true := by
  have klo : fkey lo ≤ fkey v := fval_le_fval.mp (fval_le_of_fle above)
  have khi : fkey v ≤ fkey hi := fval_le_fval.mp (fval_le_of_fle below)
  have mlo := isfinite_iff.mp flo
  have mhi := isfinite_iff.mp fhi
  have lower : -0x7F800000 < fkey lo := by unfold fkey; split <;> omega
  have upper : fkey hi < 0x7F800000 := by unfold fkey; split <;> omega
  exact isfinite_of_key (lower.trans_le klo) (khi.trans_lt upper)

/-- The difference of two finite values that are not negative does not overflow: it lies between them. -/
theorem isfinite_fsub_of_nonneg {a b : F32} (ha : isfinite a = true) (hb : isfinite b = true) (a0 : 0 ≤ fval a)
    (b0 : 0 ≤ fval b) : isfinite (fsub a b) = true := by
  refine (roundsTo_between (fsub_roundsTo ha hb) ((isfinite_fneg b).trans hb) ha ?_ ?_).1
  · rw [fval_fneg]
    exact_mod_cast (show -fval b ≤ fval a - fval b by linarith)
  · exact_mod_cast (show fval a - fval b ≤ fval a by linarith)

theorem fval_f1 : fval f1 = 1 :=
  have ⟨_, _, _, one, _⟩ := fval_literals
  one

/-- A root does not overflow. -/
theorem fsqrt_bounds {a : F32} (ha : isfinite a = true) (a0 : 0 ≤ fval a) :
    isfinite (fsqrt a) = true ∧ 0 ≤ fval (fsqrt a) := by
  have rounds := fsqrt_roundsTo ha a0
  have a0' : (0 : ℝ) ≤ fval a := by exact_mod_cast a0
  obtain ⟨-, a1⟩ := abs_le.mp (abs_fval_le ha)
  have root : Real.sqrt (fval a) ≤ fval a + 1 := Real.sqrt_le_iff.mpr ⟨by linarith, by nlinarith⟩
  have fin : isfinite (fsqrt a) = true := by
    refine rounds.finite ?_
    rw [abs_of_nonneg (Real.sqrt_nonneg _)]
    linarith
  have nonneg := le_roundsTo (c := f0) rounds fin (by decide) (by simp [fval_f0])
  exact ⟨fin, by rwa [fval_f0] at nonneg⟩

/-- The bounds of the front end's values: `±SAT` (R17) and the squares they reach (R303), and the limits of `DELAY` and `SPS`
(R8). -/
theorem fval_bound_literals :
    fval 0xC7800000#32 = -2 ^ 16 ∧ fval 0x47800000#32 = 2 ^ 16 ∧ fval 0x4F800000#32 = 2 ^ 32 ∧ fval 0x50000000#32 = 2 ^ 33
      ∧ fval 0x42000000#32 = 32 ∧ fval Config.spsMin = 2 ∧ fval Config.spsMax = 64 ∧ fval 0x45000000#32 = 2048 := by
  decide +kernel

/-- A saturated value is at most `SAT` in magnitude (R17). -/
theorem abs_fval_sat_le (v : F32) : |fval (sat v)| ≤ 2 ^ 16 := by
  obtain ⟨least, greatest, -⟩ := fval_bound_literals
  obtain ⟨lo, hi⟩ := sat_bounds v
  exact abs_le.mpr ⟨least ▸ fval_le_of_fle lo, greatest ▸ fval_le_of_fle hi⟩

/-- The square of a value within `±SAT`. -/
theorem fmul_self_bounds {a : F32} (ha : isfinite a = true) (bound : |fval a| ≤ 2 ^ 16) :
    isfinite (fmul a a) = true ∧ 0 ≤ fval (fmul a a) ∧ fval (fmul a a) ≤ 2 ^ 32 := by
  obtain ⟨-, -, top, -⟩ := fval_bound_literals
  have small : fval a * fval a ≤ 2 ^ 32 := by
    calc fval a * fval a = |fval a| * |fval a| := (abs_mul_abs_self _).symm
      _ ≤ 2 ^ 16 * 2 ^ 16 := mul_le_mul bound bound (abs_nonneg _) (by norm_num)
      _ = 2 ^ 32 := by norm_num
  rw [← top] at small ⊢
  rw [← fval_f0]
  refine roundsTo_between (fmul_roundsTo ha ha) (by decide) (by decide) ?_ (by exact_mod_cast small)
  rw [fval_f0]
  exact_mod_cast mul_self_nonneg (fval a)

/-- The squared magnitude of a saturated value neither overflows nor is negative. -/
theorem cnorm2_csat_bounds (z : Cplx) : isfinite (cnorm2 (csat z)) = true ∧ 0 ≤ fval (cnorm2 (csat z)) := by
  obtain ⟨-, -, -, top, -⟩ := fval_bound_literals
  obtain ⟨fre, re0, re1⟩ := fmul_self_bounds (isfinite_sat z.re) (abs_fval_sat_le z.re)
  obtain ⟨fim, im0, im1⟩ := fmul_self_bounds (isfinite_sat z.im) (abs_fval_sat_le z.im)
  have nonneg := add_nonneg re0 im0
  have small : fval (fmul (sat z.re) (sat z.re)) + fval (fmul (sat z.im) (sat z.im)) ≤ fval 0x50000000#32 := by
    rw [top]
    linarith
  rw [← fval_f0] at nonneg ⊢
  obtain ⟨fin, lower, -⟩ := roundsTo_between (fadd_roundsTo fre fim) (lo := f0) (hi := 0x50000000#32) (by decide) (by decide)
    (by exact_mod_cast nonneg) (by exact_mod_cast small)
  exact ⟨fin, lower⟩

/-- The magnitude of a saturated value is finite and not negative. -/
theorem cabs_csat_bounds (z : Cplx) : isfinite (cabs (csat z)) = true ∧ 0 ≤ fval (cabs (csat z)) :=
  have ⟨fin, nonneg⟩ := cnorm2_csat_bounds z
  fsqrt_bounds fin nonneg

end Sys2Proof.Numerics

namespace Sys2Proof.FrontEnd

open Sys2Proof.Machine Sys2Proof.Laws Sys2Proof.Numerics Sys2Proof.Groups

/-! ## Legal configurations (R221) -/

/-- Every check of an accepted configuration holds. -/
theorem check_of_legal {c : Cfg} (legal : cfgMask c = 0#17) {k : Nat} (bit : k < 17) : (cfgChecks c).getD k true = true := by
  have clear := Commands.getLsbD_cfgMask c bit
  rwa [legal, BitVec.getLsbD_zero, eq_comm, Bool.not_eq_false'] at clear

theorem agcOk_of_legal {c : Cfg} (legal : cfgMask c = 0#17) : agcOk c = true := check_of_legal legal (k := 5) (by decide)
theorem delayOk_of_legal {c : Cfg} (legal : cfgMask c = 0#17) : delayOk c = true := check_of_legal legal (k := 1) (by decide)
theorem spsOk_of_legal {c : Cfg} (legal : cfgMask c = 0#17) : spsOk c = true := check_of_legal legal (k := 3) (by decide)

/-! ## Saturation (R17, R301, R314) -/

theorem csatChanges_iff (z : Cplx) : csatChanges z = true ↔ csat z ≠ z := bne_iff_ne

/-- A list of outputs is changed by saturation exactly when one of them is. -/
theorem any_csatChanges_iff (l : List Cplx) : l.any csatChanges = true ↔ l.map csat ≠ l := by
  have unchanged : l.map csat = l ↔ ∀ z ∈ l, csat z = z := by
    conv_lhs => rw [← List.map_id l, List.map_map]
    exact List.map_inj_left
  rw [Ne, unchanged, List.any_eq_true]
  simp only [csatChanges_iff, not_forall, exists_prop]

/-- A saturation event as an update of the control items, by the condition that raises it (R803). -/
theorem raiseNumIf_eq_ite {changed : Bool} {P : Prop} [Decidable P] (raised : changed = true ↔ P) (u : NumUnit) (s : State) :
    raiseNumIf changed u s = { s with
      ctl := if P then
          { s.ctl with numEvt := s.ctl.numEvt ||| numMask u, irqStatus := s.ctl.irqStatus ||| 0x020#10 }
        else s.ctl } := by
  rw [raiseNumIf_eq]
  by_cases event : P
  · rw [if_pos event, if_pos (raised.mpr event)]
    rfl
  · rw [if_neg event, if_neg (mt raised.mp event)]

/-- An enabled process step runs on the oldest item (R110). -/
theorem onOldest_enabled {α : Type} {queue : State → List α} {enabled : State → Bool}
    {run : α → List α → State → State} {s : State} {x : α} {rest : List α} (oldest : queue s = x :: rest)
    (ready : enabled s = true) : onOldest queue enabled run s = run x rest s := by
  rw [onOldest, oldest]
  exact if_pos ready

/-! ## AGC_STEP (R300 to R303) -/

/-- An enabled AGC_STEP processes the oldest sample. -/
theorem exec_agcStep_enabled {s : State} {x : Cplx} {rest : List Cplx} (oldest : s.fifo.fIn = x :: rest)
    (running : s.ctl.running = true) (free : s.agc.outq = []) :
    exec .agcStep s = .next (agcProcess x { s with fifo := { s.fifo with fIn := rest } }) := by
  have enabled : agcEnabled s = true := by simp [agcEnabled, oldest, running, free]
  rw [exec_agcStep, agcTurn, onOldest_enabled oldest enabled]

/-- The gain after a sample. -/
theorem agcProcess_gain (x : Cplx) (s : State) :
    (agcProcess x s).agc.g = agcClamped s.act.cfg s.agc.g (csat (agcProduct s.agc.g (csat x))) := by
  unfold agcProcess raiseNumIf
  dsimp only
  split <;> rfl

/-- Settles O23: an enabled step is `agcProcess`; the saturation event by `csatChanges_iff`. -/
theorem agcStepResult : Obligations.AgcStepResult := by
  intro s x rest oldest running free c xs raw y gn g2
  have changed : (csatChanges x || csatChanges raw || g2 != gn) = true ↔ xs ≠ x ∨ y ≠ raw ∨ g2 ≠ gn := by
    rw [Bool.or_eq_true, Bool.or_eq_true, csatChanges_iff, csatChanges_iff, bne_iff_ne, or_assoc]
    rfl
  rw [exec_agcStep_enabled oldest running free, agcProcess, free, List.nil_append]
  exact congrArg _ (raiseNumIf_eq_ite changed .agc _)

/-- The gain before the clamp is a number: the error `AGC_REF - |y|` is finite, so its product with the rate is no NaN, and a
finite gain plus a number is a number (R303). -/
theorem isnan_agcNext {c : Cfg} {g : F32} (rate : isfinite c.agcRate = true) (ref : isfinite c.agcRef = true)
    (ref0 : 0 ≤ fval c.agcRef) (gain : isfinite g = true) (z : Cplx) : isnan (agcNext c g (csat z)) = false := by
  obtain ⟨fin, nonneg⟩ := cabs_csat_bounds z
  have error := isfinite_fsub_of_nonneg ref fin ref0 nonneg
  have product : isnan (fmul c.agcRate (fsub c.agcRef (cabs (csat z)))) = false := by
    simp [isnan_fmul, isnan_of_isfinite, isinf_of_isfinite, rate, error]
  simp [agcNext, fadd, isnan_addAs, isnan_of_isfinite gain, isinf_of_isfinite gain, product]

/-- Settles O24: the clamp of a number (`isnan_agcNext`) between the finite, ordered bounds of check 5. -/
theorem agcGainBounded : Obligations.AgcGainBounded := by
  intro s x rest oldest running free legal gain
  have checks := agcOk_of_legal legal
  simp only [agcOk, Bool.and_eq_true, and_assoc] at checks
  obtain ⟨-, rate, ref, fgmin, fgmax, -, ordered, -, -, -, -, refPos⟩ := checks
  have ref0 : 0 ≤ fval s.act.cfg.agcRef := by
    rw [← fval_f0]
    exact (fval_lt_of_flt refPos).le
  refine ⟨_, exec_agcStep_enabled oldest running free, ?_⟩
  rw [agcProcess_gain]
  obtain ⟨-, above, below⟩ := clampf_bounds (isnan_agcNext rate ref ref0 gain _) ordered
  exact ⟨isfinite_of_between fgmin fgmax above below, above, below⟩

/-! ## MF_STEP (R314) -/

/-- An enabled MF_STEP processes the oldest item. -/
theorem exec_mfStep_enabled {s : State} {it : Item12} {rest : List Item12} (oldest : s.fifo.l12 = it :: rest)
    (running : s.ctl.running = true) (free : s.mf.outq = []) :
    exec .mfStep s = .next (mfProcess it { s with fifo := { s.fifo with l12 := rest } }) := by
  have enabled : mfEnabled s = true := by simp [mfEnabled, oldest, running, free]
  rw [exec_mfStep, mfTurn, onOldest_enabled oldest enabled]

/-- A branch output as the guarded fold of R314. -/
theorem mfBranch_eq_foldl (a : Act) (line : List Cplx) (b : Nat) :
    mfBranch a line b = (List.range (2 * a.kh + 1)).foldl
      (fun sum k =>
        if k * a.n + b < a.l then cadd sum (cscale (a.c.getD (k * a.n + b) f0) (line.getD k czero)) else sum) czero := by
  simp only [mfBranch, csum, List.foldl_map, List.foldl_filter, decide_eq_true_eq]

/-- Settles O25: an enabled step is `mfProcess`; its outputs by `mfBranch_eq_foldl`, the event by `any_csatChanges_iff`. -/
theorem mfStepResult : Obligations.MfStepResult := by
  intro s it rest oldest running free a x line acc y
  have outputs : mfOutputs a line = acc := List.map_congr_left fun b _ => mfBranch_eq_foldl a line b
  have staged : (⟨y, it.smp⟩ : Item23) = ⟨(mfOutputs a line).map csat, it.smp⟩ := by rw [outputs]; rfl
  have changed : (mfOutputs a line).any csatChanges = true ↔ y ≠ acc := by
    rw [outputs]
    exact any_csatChanges_iff acc
  rw [exec_mfStep_enabled oldest running free, mfProcess, free, List.nil_append, staged]
  exact congrArg _ (raiseNumIf_eq_ite changed .mf _)

/-! ## The prototype (R310) -/

/-- What `protoLegal` says of the taps and of the branch sums up to the middle branch (P1 and P3 of R310). -/
theorem protoLegal_iff (p : Nat → F32) (kh n : Nat) :
    protoLegal p kh n = true ↔ (∀ i, i < tapLen kh n → isfinite (p i) = true)
      ∧ ∀ b, b ≤ n / 2 → isfinite (branchSum p kh n b) = true ∧ flt f0 (branchSum p kh n b) = true := by
  simp only [protoLegal, Bool.and_eq_true, List.all_eq_true, List.mem_range, Nat.lt_succ_iff]

/-- A sum of ones: finite, since 1.0 is below half a place at the top of the range, and at least 1.0 from the first term on. -/
theorem foldl_fadd_f1_bounds {k : Nat} {r : F32} (fin : isfinite r = true) (nonneg : 0 ≤ fval r) (pos : k = 0 → 0 < fval r) :
    isfinite ((List.replicate k f1).foldl fadd r) = true ∧ 0 < fval ((List.replicate k f1).foldl fadd r) := by
  induction k generalizing r with
  | zero => exact ⟨fin, pos rfl⟩
  | succ k ih =>
    have rounds := fadd_roundsTo fin (show isfinite f1 = true by decide)
    rw [fval_f1] at rounds
    have nonneg' : (0 : ℝ) ≤ fval r := by exact_mod_cast nonneg
    obtain ⟨-, top⟩ := abs_le.mp (abs_fval_le fin)
    have fin' : isfinite (fadd r f1) = true := by
      refine rounds.finite ?_
      push_cast
      exact abs_lt.mpr ⟨by linarith, by linarith⟩
    have atLeast : 1 ≤ fval (fadd r f1) := by
      rw [← fval_f1]
      refine le_roundsTo rounds fin' (by decide) ?_
      rw [fval_f1]
      push_cast
      linarith
    exact ih fin' (by linarith) fun _ => by linarith

/-- The constant prototype has finite, positive branch sums, over branches that have a term (P3 of R310). -/
theorem branchSum_f1 {kh n b : Nat} (term : b < tapLen kh n) :
    isfinite (branchSum (fun _ => f1) kh n b) = true ∧ 0 < fval (branchSum (fun _ => f1) kh n b) := by
  have nonempty : 0 ∈ (List.range (2 * kh + 1)).filter (fun k => decide (k * n + b < tapLen kh n)) := by simp [term]
  rw [branchSum, fsum, branchTerms, List.map_const']
  exact foldl_fadd_f1_bounds (by decide) fval_f0.ge fun empty =>
    absurd (List.length_pos_of_mem nonempty) (by omega)

/-- With a half span of at least one sample the constant prototype is legal (R310; notes/assumptions/5.md). -/
theorem protoLegal_f1 {kh n : Nat} (span : 1 ≤ kh) : protoLegal (fun _ => f1) kh n = true := by
  refine (protoLegal_iff _ kh n).mpr ⟨fun _ _ => by decide, fun b lower => ?_⟩
  have term : b < tapLen kh n := by
    have := Nat.mul_le_mul_right n (show 2 ≤ 2 * kh by omega)
    unfold tapLen
    omega
  obtain ⟨fin, pos⟩ := branchSum_f1 term
  rw [← fval_f0] at pos
  exact ⟨fin, (flt_iff isnan_f0 (isnan_of_isfinite fin)).mpr (fval_lt_fval.mp pos)⟩

/-- `i2f` of a delay COMMIT accepts (R221). -/
theorem i2f_delay_bounds {d : Nat} (lo : 1 ≤ d) (hi : d ≤ 32) :
    isfinite (i2f d) = true ∧ 1 ≤ fval (i2f d) ∧ fval (i2f d) ≤ 32 := by
  obtain ⟨-, -, -, -, most, -⟩ := fval_bound_literals
  rw [← fval_f1, ← most]
  refine roundsTo_between (i2f_roundsTo d) (by decide) (by decide) ?_ ?_
  · rw [fval_f1]
    exact_mod_cast lo
  · rw [most]
    exact_mod_cast hi

/-- The ceiling of a finite positive value is at least 1 (R221). -/
theorem one_le_ceilI {a : F32} (fin : isfinite a = true) (pos : 0 < fval a) : 1 ≤ ceilI a := by
  have below : ⌊-fval a⌋ < 0 := Int.floor_lt.mpr (by push_cast; linarith)
  rw [ceilI, floorI_eq_floor ((isfinite_fneg a).trans fin), fval_fneg]
  omega

/-- The half span of a legal delay and a legal rate is at least one sample (R221, R310). -/
theorem one_le_halfSpan {c : Cfg} (delay : delayOk c = true) (rate : spsOk c = true) :
    1 ≤ halfSpan c.rrcDelay.toNat c.sps := by
  simp only [delayOk, Bool.and_eq_true, decide_eq_true_eq] at delay
  simp only [spsOk, Bool.and_eq_true] at rate
  obtain ⟨least, most⟩ := delay
  obtain ⟨⟨fin, lo⟩, hi⟩ := rate
  obtain ⟨-, -, -, -, -, spsMin, spsMax, top⟩ := fval_bound_literals
  obtain ⟨fd, d1, d32⟩ := i2f_delay_bounds least most
  have s2 : 2 ≤ fval c.sps := spsMin ▸ fval_le_of_fle lo
  have s64 : fval c.sps ≤ 64 := spsMax ▸ fval_le_of_fle hi
  have lower : fval f1 ≤ fval (i2f c.rrcDelay.toNat) * fval c.sps := by
    rw [fval_f1]
    nlinarith
  have upper : fval (i2f c.rrcDelay.toNat) * fval c.sps ≤ fval 0x45000000#32 := by
    rw [top]
    nlinarith
  obtain ⟨fp, product, -⟩ := roundsTo_between (fmul_roundsTo fd fin) (lo := f1) (hi := 0x45000000#32) (by decide) (by decide)
    (by exact_mod_cast lower) (by exact_mod_cast upper)
  rw [fval_f1] at product
  have ceiling := one_le_ceilI fp (by linarith)
  unfold halfSpan
  omega

/-- The prototype of a legal configuration has P1 and P3 of R310: the free one where it has them, else the constant one. -/
theorem protoLegal_rrcProto (beta : F32) {delay : Nat} {sps : F32} (n : Nat) (span : 1 ≤ halfSpan delay sps) :
    protoLegal (rrcProto beta delay sps n) (halfSpan delay sps) n = true := by
  unfold rrcProto
  split
  · next legal => exact legal
  · exact protoLegal_f1 span

/-- Every branch's divisor is the sum of a branch up to the middle one (R312). -/
theorem branchNorm_eq_branchSum (p : Nat → F32) (kh : Nat) {n b : Nat} (within : b < n) :
    ∃ b', b' ≤ n / 2 ∧ branchNorm p kh n b = branchSum p kh n b' := by
  by_cases lower : b ≤ n / 2
  · exact ⟨b, lower, if_pos lower⟩
  · exact ⟨n - b, by omega, if_neg lower⟩

/-- Settles O26: P1 and P3 by `protoLegal_rrcProto`, P2 by `rrcProto_mirror`. -/
theorem prototypeProperties : Obligations.PrototypeProperties := by
  intro c legal n kh l p
  have span := one_le_halfSpan (delayOk_of_legal legal) (spsOk_of_legal legal)
  obtain ⟨taps, sums⟩ := (protoLegal_iff p kh n).mp (protoLegal_rrcProto c.rrcRolloff n span)
  refine ⟨taps, fun i tap => Coefficients.rrcProto_mirror _ _ _ tap, fun b within => ?_⟩
  obtain ⟨b', lower, sum⟩ := branchNorm_eq_branchSum p kh within
  rw [sum]
  exact sums b' lower

end Sys2Proof.FrontEnd

namespace Sys2Proof.Numerics

open Sys2Proof.Machine

/-! ## Exact results (R13) -/

/-- A number that some finite word stands for is rounded to itself. -/
theorem roundsTo_exact {r c : F32} {x : ℚ} (h : RoundsTo r (x : ℝ)) (fc : isfinite c = true) (value : fval c = x) :
    isfinite r = true ∧ fval r = x := by
  obtain ⟨fin, lower, upper⟩ := roundsTo_between h fc fc (by rw [value]) (by rw [value])
  exact ⟨fin, (le_antisymm upper lower).trans value⟩

/-- A number no greater in magnitude than a finite value is rounded to one no greater. -/
theorem roundsTo_abs_le {r c : F32} {x : ℚ} (h : RoundsTo r (x : ℝ)) (fc : isfinite c = true) (bound : |x| ≤ fval c) :
    isfinite r = true ∧ |fval r| ≤ fval c := by
  obtain ⟨above, below⟩ := abs_le.mp bound
  rw [← fval_fneg] at above
  obtain ⟨fin, lower, upper⟩ := roundsTo_between h ((isfinite_fneg c).trans fc) fc (by exact_mod_cast above)
    (by exact_mod_cast below)
  rw [fval_fneg] at lower
  exact ⟨fin, abs_le.mpr ⟨lower, upper⟩⟩

/-- Every significand of at most 24 bits is a magnitude's, at every place. -/
theorem exists_places_eq {m : ℕ} (bits : m < 2 ^ 24) (j : ℕ) : ∃ n, places n = m * 2 ^ j := by
  induction j generalizing m with
  | zero => exact ⟨0 * 2 ^ 23 + m, places_add bits.le (.inl rfl)⟩
  | succ j ih =>
    rcases Nat.lt_or_ge m (2 ^ 23) with small | normal
    · obtain ⟨n, hn⟩ := ih (m := 2 * m) (by omega)
      exact ⟨n, by rw [hn]; ring⟩
    · exact ⟨_, places_add bits.le (.inr normal)⟩

/-- A binary fraction of at most 24 bits that binary32 holds exactly: its last place is 2^-149 or above (R12). -/
theorem exists_fval_eq_div {m k : ℕ} (bits : m < 2 ^ 24) (place : k ≤ 149) :
    ∃ c : F32, isfinite c = true ∧ fval c = m / 2 ^ k := by
  obtain ⟨n, hn⟩ := exists_places_eq bits (149 - k)
  have below : places n < places 0x7F800000 := by
    calc places n = m * 2 ^ (149 - k) := hn
      _ < 2 ^ 24 * 2 ^ 253 := Nat.mul_lt_mul_of_lt_of_le bits (Nat.pow_le_pow_right two_pos (by omega)) (by positivity)
      _ = places 0x7F800000 := by decide
  have fin := places_strictMono.lt_iff_lt.mp below
  refine ⟨withSign false n, isfinite_iff.mpr (by rwa [fmag_withSign _ (by omega)]), ?_⟩
  have value : (fval (withSign false n) : ℝ) = m / 2 ^ k := by
    rw [fval_eq_places, fsign_withSign _ (by omega), fmag_withSign _ (by omega), hn, signOf_false, one_mul, Nat.cast_mul,
      Nat.cast_pow, Nat.cast_two, mul_assoc, ← zpow_natCast, ← zpow_add₀ two_ne_zero, Nat.cast_sub place,
      show ((149 : ℕ) - k + -149 : ℤ) = -k by push_cast; ring, zpow_neg, zpow_natCast, div_eq_mul_inv]
  exact Rat.cast_injective (α := ℝ) (by push_cast; exact value)

/-- Every value below 2^24 is a binary fraction of at most 24 bits. -/
theorem exists_eq_div_of_lt {p : F32} (nonneg : 0 ≤ fval p) (small : fval p < 2 ^ 24) :
    ∃ m k : ℕ, m < 2 ^ 24 ∧ k ≤ 149 ∧ fval p = m / 2 ^ k := by
  obtain ⟨j, m, hmag, bits, normal⟩ := exists_place (fmag p)
  have positive : signOf (fsign p) * places (fmag p) = (places (fmag p) : ℝ) := by
    rcases Nat.eq_zero_or_pos (fmag p) with zero | pos
    · simp [zero]
    · have clear : fsign p = false := by simpa [pos] using mt fval_neg_iff.mpr (not_lt.mpr nonneg)
      rw [clear, signOf_false, one_mul]
  have scaled : (fval p : ℝ) * 2 ^ 149 = (m * 2 ^ j : ℕ) := by
    rw [fval_eq_places, positive, hmag, places_add bits.le normal, zpow_neg, mul_assoc]
    norm_num
  have scaled' : fval p * 2 ^ 149 = (m * 2 ^ j : ℕ) := by exact_mod_cast scaled
  have place : j ≤ 149 := by
    by_contra! high
    have least : (2 ^ 23 * 2 ^ 150 : ℕ) ≤ m * 2 ^ j :=
      Nat.mul_le_mul (normal.resolve_left (by omega)) (Nat.pow_le_pow_right two_pos high)
    have least' : (2 ^ 23 * 2 ^ 150 : ℚ) ≤ fval p * 2 ^ 149 := by rw [scaled']; exact_mod_cast least
    linarith
  refine ⟨m, 149 - j, bits, by omega, ?_⟩
  rw [eq_div_iff (by positivity), ← mul_left_inj' (show (2 : ℚ) ^ j ≠ 0 by positivity), mul_assoc, ← pow_add,
    Nat.sub_add_cancel place, scaled']
  push_cast
  rfl

/-- Taking a whole number off a value below 2^24 is exact. -/
theorem fsub_nat_exact {p b : F32} {n : ℕ} (fp : isfinite p = true) (fb : isfinite b = true) (whole : fval b = n)
    (le : (n : ℚ) ≤ fval p) (small : fval p < 2 ^ 24) : isfinite (fsub p b) = true ∧ fval (fsub p b) = fval p - n := by
  obtain ⟨m, k, bits, place, value⟩ := exists_eq_div_of_lt (n.cast_nonneg.trans le) small
  have fits : n * 2 ^ k ≤ m := by
    rw [value, le_div_iff₀ (by positivity)] at le
    exact_mod_cast le
  obtain ⟨c, fc, hc⟩ := exists_fval_eq_div (m := m - n * 2 ^ k) (by omega) place
  have rounds := fsub_roundsTo fp fb
  rw [whole] at rounds
  refine roundsTo_exact rounds fc ?_
  rw [hc, value, Nat.cast_sub fits]
  push_cast
  rw [sub_div, mul_div_cancel_right₀ _ (by positivity)]

/-- A natural number below 2^24 is a binary32 value. -/
theorem i2f_exact {n : ℕ} (bits : n < 2 ^ 24) : isfinite (i2f n) = true ∧ fval (i2f n) = n := by
  obtain ⟨c, fc, hc⟩ := exists_fval_eq_div bits (Nat.zero_le 149)
  have rounds := i2f_roundsTo n
  exact roundsTo_exact (x := n) (by exact_mod_cast rounds) fc (by simpa using hc)

/-! Comparisons of finite values (R13). -/

theorem fle_of_fval_le {a b : F32} (fa : isfinite a = true) (fb : isfinite b = true) (h : fval a ≤ fval b) :
    fle a b = true := (fle_iff (isnan_of_isfinite fa) (isnan_of_isfinite fb)).mpr (fval_le_fval.mp h)

theorem flt_of_fval_lt {a b : F32} (fa : isfinite a = true) (fb : isfinite b = true) (h : fval a < fval b) :
    flt a b = true := (flt_iff (isnan_of_isfinite fa) (isnan_of_isfinite fb)).mpr (fval_lt_fval.mp h)

/-- A bound that is not negative is above its opposite. -/
theorem fle_fneg_self {b : F32} (h : fle f0 b = true) : fle (fneg b) b = true := by
  obtain ⟨-, nb⟩ := isnan_of_fle h
  have nonneg := (fle_iff isnan_f0 nb).mp h
  rw [fkey_f0] at nonneg
  rw [fle_iff ((isnan_fneg b).trans nb) nb, fkey_fneg]
  omega

/-- A sum of a finite value and a product of two is a number, though it may overflow (R13). -/
theorem isnan_fadd_fmul {a b c : F32} (fa : isfinite a = true) (fb : isfinite b = true) (fc : isfinite c = true) :
    isnan (fadd a (fmul b c)) = false ∧ isnan (fadd (fmul b c) a) = false := by
  have product : isnan (fmul b c) = false := by rw [fmul_finite fb fc, isnan_roundTo]
  simp [fadd, isnan_addAs, isnan_of_isfinite fa, isinf_of_isfinite fa, product]

end Sys2Proof.Numerics

namespace Sys2Proof.Timing

open Sys2Proof.Machine Sys2Proof.Laws Sys2Proof.Numerics Sys2Proof.FrontEnd

/-! ## The strobe (R404 to R407, R409) -/

/-- A clamp of the loop filter acts when it changes the bit pattern (R405; notes/assumptions/11.md). -/
theorem loopClips_iff (a : Act) (vi e : F32) :
    loopClips a vi e = true ↔ loopInt a vi e ≠ loopIntRaw a vi e ∨ loopOut a vi e ≠ loopOutRaw a vi e := by
  rw [loopClips, Bool.or_eq_true, bne_iff_ne, bne_iff_ne]

/-- The timing error, by what the strobe has behind it (R404). -/
theorem timingError_eq (t : Str) (y : Cplx) :
    timingError t y = if t.havePrev = true ∧ t.haveMid = true then gardner t.yPrev t.yMid y else f0 := by
  simp only [timingError, Bool.and_eq_true]

/-- Settles O28: `strobe` with its error by `timingError_eq` and its saturation event by `loopClips_iff`. -/
theorem strobeEffect : Obligations.StrobeEffect := by
  intro s y smp st c yn dd e vi0 vi v0 v delta pm ps
  have sample : interp s.act.n y s.str.muS = yn := rfl
  have error : timingError s.str yn = e := timingError_eq st yn
  rw [strobe, raiseNumIf_eq_ite (loopClips_iff _ _ _)]
  simp only [sample, error]
  rfl

/-! ## The events of one item (R402, R403) -/

/-- The midpoint, when one is due (R402). -/
def dueMidpoint (y : List Cplx) (s : State) : State :=
  if s.str.midPending = true ∧ s.str.cM = 0 then midpoint y s else s

/-- With a strobe due, the loop takes it and then its own midpoint, if that is due: the next strobe lies in a later item
(R406). -/
theorem strLoop_strobe (y : List Cplx) (smp : Idx) (k : Nat) {s : State}
    (noMid : ¬ (s.str.midPending = true ∧ s.str.cM = 0)) (due : s.str.cS = 0) :
    strLoop y smp (k + 2) s = dueMidpoint y (strobe y smp s) := by
  have later : (strobe y smp s).str.cS ≠ 0 := Nat.ne_zero_of_lt (strobe_next y smp s).1
  rw [strLoop, if_neg (by simpa using noMid), if_pos (by simpa using due)]
  exact strLoop_midpoint y smp k _ later

/-- The loop handles a midpoint, the strobe and the strobe's own midpoint, each when it is due (R402). -/
theorem strLoop_eq (y : List Cplx) (smp : Idx) (s : State) :
    strLoop y smp 3 s = if (dueMidpoint y s).str.cS = 0 then dueMidpoint y (strobe y smp (dueMidpoint y s))
      else dueMidpoint y s := by
  by_cases later : s.str.cS = 0
  · by_cases mid : s.str.midPending = true ∧ s.str.cM = 0
    · rw [dueMidpoint, if_pos mid, if_pos (show (midpoint y s).str.cS = 0 from later), strLoop, if_pos (by simpa using mid)]
      exact strLoop_strobe y smp 0 (fun due => absurd due.1 nofun) later
    · rw [dueMidpoint, if_neg mid, if_pos later]
      exact strLoop_strobe y smp 1 mid later
  · have kept : (dueMidpoint y s).str.cS = s.str.cS := by
      unfold dueMidpoint
      split <;> rfl
    rw [kept, if_neg later]
    exact strLoop_midpoint y smp 2 s later

/-- An enabled STR_STEP processes the oldest item. -/
theorem exec_strStep_enabled {s : State} {it : Item23} {rest : List Item23} (oldest : s.fifo.l23 = it :: rest)
    (running : s.ctl.running = true) (free : s.str.outq = []) :
    exec .strStep s = .next (strProcess it { s with fifo := { s.fifo with l23 := rest } }) := by
  have enabled : strEnabled s = true := by simp [strEnabled, oldest, running, free]
  rw [Groups.exec_strStep, Groups.strTurn, onOldest_enabled oldest enabled]

/-- Settles O29: an enabled step is `strProcess`, whose loop is `strLoop_eq`. -/
theorem strStepResult : Obligations.StrStepResult := by
  intro s it rest oldest running free mid s1 s2
  have s1_act : s1.act = s.act := by
    simp only [s1, mid]
    split <;> rfl
  have mid_eq (u : State) (act : u.act = s.act) : mid u = dueMidpoint it.y u := by
    simp only [mid, ← act]
    rfl
  have first : s1 = dueMidpoint it.y { s with fifo := { s.fifo with l23 := rest } } := mid_eq _ rfl
  have second : s2 = strLoop it.y it.smp 3 { s with fifo := { s.fifo with l23 := rest } } := by
    rw [strLoop_eq, ← first, ← mid_eq _ ((Steps.strobe_act it.y it.smp s1).trans s1_act)]
  rw [exec_strStep_enabled oldest running free, second]
  rfl

/-! ## The loop filter (R405) -/

/-- The bound on timing recovery's deviation is a finite number that is not negative. -/
structure DevOk (c : Cfg) : Prop where
  nonneg : fle f0 c.strMaxDev = true
  finite : isfinite c.strMaxDev = true

/-- `v` lies within `±STR_MAX_DEV`. -/
def WithinDev (c : Cfg) (v : F32) : Prop := fle (fneg c.strMaxDev) v = true ∧ fle v c.strMaxDev = true

theorem WithinDev.isfinite {c : Cfg} {v : F32} (h : WithinDev c v) (dev : DevOk c) : isfinite v = true :=
  isfinite_of_between ((isfinite_fneg _).trans dev.finite) dev.finite h.1 h.2

/-- A number clamped to the deviation lies within it. -/
theorem clampf_withinDev {c : Cfg} {v : F32} (dev : DevOk c) (number : isnan v = false) :
    WithinDev c (clampf v (fneg c.strMaxDev) c.strMaxDev) :=
  (clampf_bounds number (fle_fneg_self dev.nonneg)).2

section

variable {a : Act} {vi e : F32} (dev : DevOk a.cfg) (kp : isfinite a.kp = true) (ki : isfinite a.ki = true)
  (fvi : isfinite vi = true) (fe : isfinite e = true)

include dev ki fvi fe in
theorem loopInt_withinDev : WithinDev a.cfg (loopInt a vi e) := clampf_withinDev dev (isnan_fadd_fmul fvi ki fe).1

include dev kp ki fvi fe in
theorem loopOut_withinDev : WithinDev a.cfg (loopOut a vi e) :=
  clampf_withinDev dev (isnan_fadd_fmul ((loopInt_withinDev dev ki fvi fe).isfinite dev) kp fe).2

end

/-! ## The period (R406) -/

/-- Bounds of a period, and of a position with a period added (R406). -/
theorem fval_position_literals : fval 0x43000000#32 = 128 ∧ fval 0x43800000#32 = 256 := by decide +kernel

/-- What COMMIT checks of a configuration's rate and deviation (R221): `SPS - 1.0`, the greatest deviation, is exact. -/
theorem deviation_of_legal {c : Cfg} (legal : cfgMask c = 0#17) :
    DevOk c ∧ isfinite c.sps = true ∧ 2 ≤ fval c.sps ∧ fval c.sps ≤ 64 ∧ fval c.strMaxDev ≤ fval c.sps - 1 := by
  have rate := spsOk_of_legal legal
  have dev : maxDevOk c = true := check_of_legal legal (k := 9) (by decide)
  simp only [spsOk, maxDevOk, Bool.and_eq_true] at rate dev
  obtain ⟨⟨fsps, lo⟩, hi⟩ := rate
  obtain ⟨⟨fdev, nonneg⟩, le⟩ := dev
  obtain ⟨-, -, -, -, -, spsMin, spsMax, -⟩ := fval_bound_literals
  have s2 : 2 ≤ fval c.sps := spsMin ▸ fval_le_of_fle lo
  have s64 : fval c.sps ≤ 64 := spsMax ▸ fval_le_of_fle hi
  have room := (fsub_nat_exact (n := 1) fsps (show isfinite f1 = true by decide) (by simp [fval_f1])
    (by push_cast; linarith) (by linarith)).2
  have most := fval_le_of_fle le
  rw [room, Nat.cast_one] at most
  exact ⟨⟨nonneg, fdev⟩, fsps, s2, s64, most⟩

/-- A period under a legal configuration is finite, at least 1 and at most 128 (R406, R412). -/
theorem period_bounds {c : Cfg} {v : F32} (legal : cfgMask c = 0#17) (within : WithinDev c v) :
    isfinite (fadd c.sps v) = true ∧ 1 ≤ fval (fadd c.sps v) ∧ fval (fadd c.sps v) ≤ 128 := by
  obtain ⟨dev, fsps, s2, s64, most⟩ := deviation_of_legal legal
  have fv := within.isfinite dev
  have lower := fval_le_of_fle within.1
  have upper := fval_le_of_fle within.2
  rw [fval_fneg] at lower
  have least : fval f1 ≤ fval c.sps + fval v := by rw [fval_f1]; linarith
  have greatest : fval c.sps + fval v ≤ fval 0x43000000#32 := by rw [fval_position_literals.1]; linarith
  rw [← fval_f1, ← fval_position_literals.1]
  exact roundsTo_between (fadd_roundsTo fsps fv) (by decide) (by decide) (by exact_mod_cast least) (by exact_mod_cast greatest)

/-! ## Positions (R406) -/

/-- `mu` is a fractional position: it lies in [0, 1). -/
def Fraction (mu : F32) : Prop := fle f0 mu = true ∧ flt mu f1 = true

theorem Fraction.bounds {mu : F32} (h : Fraction mu) : isfinite mu = true ∧ 0 ≤ fval mu ∧ fval mu < 1 := by
  obtain ⟨lo, hi⟩ := h
  obtain ⟨n, n1⟩ := isnan_of_flt hi
  have below : fle mu f1 = true := (fle_iff n n1).mpr ((flt_iff n n1).mp hi).le
  exact ⟨isfinite_of_between (by decide) (by decide) lo below, fval_f0 ▸ fval_le_of_fle lo, fval_f1 ▸ fval_lt_of_flt hi⟩

/-- Half a period, the advance to the next midpoint (R406). -/
theorem halfPeriod_bounds {d : F32} (fd : isfinite d = true) (nonneg : 0 ≤ fval d) (le : fval d ≤ 128) :
    isfinite (fmul d fHalf) = true ∧ 0 ≤ fval (fmul d fHalf) ∧ fval (fmul d fHalf) ≤ 128 := by
  obtain ⟨-, -, half, -⟩ := fval_literals
  have least : fval f0 ≤ fval d * fval fHalf := by rw [fval_f0, half]; linarith
  have greatest : fval d * fval fHalf ≤ fval 0x43000000#32 := by rw [fval_position_literals.1, half]; linarith
  rw [← fval_f0, ← fval_position_literals.1]
  exact roundsTo_between (fmul_roundsTo fd (by decide)) (by decide) (by decide) (by exact_mod_cast least)
    (by exact_mod_cast greatest)

/-- A position with an advance of at most 128 items added lies no earlier than the advance, and does not overflow. -/
theorem position_bounds {mu d : F32} (frac : Fraction mu) (fd : isfinite d = true) (le : fval d ≤ 128) :
    isfinite (fadd mu d) = true ∧ fval d ≤ fval (fadd mu d) ∧ fval (fadd mu d) ≤ 256 := by
  obtain ⟨fmu, mu0, mu1⟩ := frac.bounds
  have greatest : fval mu + fval d ≤ fval 0x43800000#32 := by rw [fval_position_literals.2]; linarith
  rw [← fval_position_literals.2]
  exact roundsTo_between (fadd_roundsTo fmu fd) fd (by decide) (by exact_mod_cast (by linarith : fval d ≤ fval mu + fval d))
    (by exact_mod_cast greatest)

/-- The fractional part of a position is exact, so it lies in [0, 1) (R406). -/
theorem posFrac_fraction {p : F32} (fp : isfinite p = true) (nonneg : 0 ≤ fval p) (small : fval p < 2 ^ 24) :
    Fraction (posFrac p) := by
  obtain ⟨n, whole⟩ : ∃ n : ℕ, floorI p = n :=
    Int.eq_ofNat_of_zero_le (by rw [floorI_eq_floor fp]; exact Int.floor_nonneg.mpr nonneg)
  have floor : ⌊fval p⌋ = (n : ℤ) := (floorI_eq_floor fp).symm.trans whole
  obtain ⟨le, lt⟩ := Int.floor_eq_iff.mp floor
  push_cast at le lt
  have bits : n < 2 ^ 24 := by exact_mod_cast le.trans_lt small
  obtain ⟨fn, value⟩ := i2f_exact bits
  rw [← whole] at fn value
  obtain ⟨fin, frac⟩ : isfinite (posFrac p) = true ∧ fval (posFrac p) = fval p - n := fsub_nat_exact fp fn value le small
  refine ⟨fle_of_fval_le (by decide) fin ?_, flt_of_fval_lt fin (by decide) ?_⟩
  · rw [fval_f0, frac]
    linarith
  · rw [fval_f1, frac]
    linarith

/-- Settles O30: the clamps by `loopInt_withinDev` and `loopOut_withinDev`, the period by `period_bounds`; the position of the
next strobe is no less than the period, so its floor is at least 1. -/
theorem timingLoopBounded : Obligations.TimingLoopBounded := by
  refine ⟨fun a vi e nonneg finite kp ki fvi fe => ?_, fun c v mu legal lo hi mu0 mu1 => ?_⟩
  · have dev : DevOk a.cfg := ⟨nonneg, finite⟩
    obtain ⟨intLo, intHi⟩ := loopInt_withinDev dev ki fvi fe
    exact ⟨intLo, intHi, loopOut_withinDev dev kp ki fvi fe⟩
  · obtain ⟨fin, least, greatest⟩ := period_bounds legal ⟨lo, hi⟩
    obtain ⟨fpos, later, -⟩ := position_bounds ⟨mu0, mu1⟩ fin greatest
    refine ⟨fle_of_fval_le (by decide) fin (by rwa [fval_f1]), ?_⟩
    rw [floorI_eq_floor fpos, Int.le_floor]
    push_cast
    exact least.trans later

/-! ## The timing error (R404) -/

/-- The values the error of saturated interpolants reaches: a difference, a product of one and an interpolant, their sum. -/
theorem fval_error_literals :
    fval 0x48000000#32 = 2 ^ 17 ∧ fval 0x50000000#32 = 2 ^ 33 ∧ fval 0x50800000#32 = 2 ^ 34 := by decide +kernel

/-- A finite value of magnitude at most `SAT` (R17). -/
def Saturated (v : F32) : Prop := isfinite v = true ∧ |fval v| ≤ 2 ^ 16

theorem saturated_of_between {v : F32} (lo : fle 0xC7800000#32 v = true) (hi : fle v 0x47800000#32 = true) : Saturated v := by
  obtain ⟨least, greatest, -⟩ := fval_bound_literals
  exact ⟨isfinite_of_between (by decide) (by decide) lo hi,
    abs_le.mpr ⟨least ▸ fval_le_of_fle lo, greatest ▸ fval_le_of_fle hi⟩⟩

theorem saturated_of_bounded {y : Cplx} (h : bounded y) : Saturated y.re ∧ Saturated y.im :=
  have ⟨re, re', im, im'⟩ := h
  ⟨saturated_of_between re re', saturated_of_between im im'⟩

/-- One term of the error: a saturated value times the difference of two. -/
theorem gardnerTerm_bounds {m a b : F32} (hm : Saturated m) (ha : Saturated a) (hb : Saturated b) :
    isfinite (fmul m (fsub a b)) = true ∧ |fval (fmul m (fsub a b))| ≤ 2 ^ 33 := by
  obtain ⟨fm, m16⟩ := hm
  obtain ⟨fa, a16⟩ := ha
  obtain ⟨fb, b16⟩ := hb
  obtain ⟨p17, p33, -⟩ := fval_error_literals
  have difference : |fval a - fval b| ≤ fval 0x48000000#32 := by
    rw [p17]
    linarith [abs_sub (fval a) (fval b)]
  obtain ⟨fd, d17⟩ := roundsTo_abs_le (fsub_roundsTo fa fb) (by decide) difference
  have product : |fval m * fval (fsub a b)| ≤ fval 0x50000000#32 := by
    rw [p17] at d17
    rw [p33, abs_mul]
    calc |fval m| * |fval (fsub a b)| ≤ 2 ^ 16 * 2 ^ 17 := mul_le_mul m16 d17 (abs_nonneg _) (by norm_num)
      _ = 2 ^ 33 := by norm_num
  rw [← p33]
  exact roundsTo_abs_le (fmul_roundsTo fm fd) (by decide) product

/-- The Gardner error of saturated interpolants is finite. -/
theorem isfinite_gardner {p m y : Cplx} (hp : bounded p) (hm : bounded m) (hy : bounded y) :
    isfinite (gardner p m y) = true := by
  obtain ⟨pre, pim⟩ := saturated_of_bounded hp
  obtain ⟨mre, mim⟩ := saturated_of_bounded hm
  obtain ⟨yre, yim⟩ := saturated_of_bounded hy
  obtain ⟨fre, re⟩ := gardnerTerm_bounds mre pre yre
  obtain ⟨fim, im⟩ := gardnerTerm_bounds mim pim yim
  refine (roundsTo_abs_le (fadd_roundsTo fre fim) (show isfinite 0x50800000#32 = true by decide) ?_).1
  rw [fval_error_literals.2.2]
  linarith [abs_add_le (fval (fmul m.re (fsub p.re y.re))) (fval (fmul m.im (fsub p.im y.im)))]

theorem isfinite_timingError {t : Str} {y : Cplx} (prev : bounded t.yPrev) (mid : bounded t.yMid) (hy : bounded y) :
    isfinite (timingError t y) = true := by
  rw [timingError_eq]
  split
  · exact isfinite_gardner prev mid hy
  · decide

theorem bounded_czero : bounded czero := by
  refine ⟨?_, ?_, ?_, ?_⟩ <;> decide

/-- An interpolant is one of the item's outputs, or zero (R409). -/
theorem bounded_interp {y : List Cplx} (outputs : ∀ z ∈ y, bounded z) (n : Nat) (mu : F32) : bounded (interp n y mu) := by
  rw [interp, List.getD_eq_getElem?_getD]
  cases h : y[branchOf n mu]? with
  | none => exact bounded_czero
  | some z => exact outputs z (List.mem_of_getElem? h)

/-- A saturated value is bounded (R17). -/
theorem bounded_csat (z : Cplx) : bounded (csat z) := by
  obtain ⟨re, re'⟩ := sat_bounds z.re
  obtain ⟨im, im'⟩ := sat_bounds z.im
  exact ⟨re, re', im, im'⟩

/-! ## The invariant's items

A view of a state keeps what `TimingInv` speaks of and resets the rest, so that a step which leaves the view keeps it. -/

/-- The items of `TimingInv`. -/
def timingView (s : State) : State :=
  { State.reset with
    act := { actReset with cfg := s.act.cfg }
    mf := { State.reset.mf with outq := s.mf.outq }
    str := { s.str with cS := 0, cM := 0, midPending := false, haveMid := false, havePrev := false, eLast := 0#32, outq := [] }
    fifo := { fifosReset with l23 := s.fifo.l23 } }

theorem timingInv_view (s : State) : TimingInv (timingView s) ↔ TimingInv s :=
  ⟨fun h => { h with }, fun h => { h with }⟩

theorem timingInv_congr {s t : State} (h : TimingInv s) (same : timingView t = timingView s) : TimingInv t := by
  rw [← timingInv_view, same, timingInv_view]
  exact h

/-- An operation that acts on neither the matched filter nor timing recovery leaves the view. -/
theorem timingView_of_acts {p : Groups.Part} {f : State → State} (acts : Groups.ActsOn p f) (notMf : Groups.Part.mf ≠ p)
    (notStr : Groups.Part.str ≠ p) (s : State) : timingView (f s) = timingView s := by
  have act : (f s).act = s.act := (congrArg State.act (acts.keeps s) :)
  have mf : (f s).mf = s.mf := by
    rw [acts.eq_blend s]
    exact if_neg notMf
  have str : (f s).str = s.str := by
    rw [acts.eq_blend s]
    exact if_neg notStr
  have l23 : (f s).fifo.l23 = s.fifo.l23 := by
    rw [acts.eq_blend s]
    exact if_neg notStr
  rw [timingView, timingView, act, mf, str, l23]

theorem timingInv_of_acts {p : Groups.Part} {f : State → State} {s : State} (acts : Groups.ActsOn p f)
    (h : TimingInv s) (notMf : Groups.Part.mf ≠ p := by decide) (notStr : Groups.Part.str ≠ p := by decide) :
    TimingInv (f s) :=
  timingInv_congr h (timingView_of_acts acts notMf notStr s)

/-! ## Resets (R902) -/

/-- A reset unit is in the invariant under a legal configuration: the period is `SPS`. -/
theorem resetUnits_timingInv {s : State} (legal : cfgMask s.act.cfg = 0#17) : TimingInv (resetUnits s) := by
  obtain ⟨dev, fsps, s2, -, -⟩ := deviation_of_legal legal
  have zeroDev : WithinDev s.act.cfg f0 := by
    obtain ⟨-, ndev⟩ := isnan_of_fle dev.nonneg
    have nonneg := fval_le_of_fle dev.nonneg
    refine ⟨fle_of_fval_le ((isfinite_fneg _).trans dev.finite) (by decide) ?_, dev.nonneg⟩
    rw [fval_fneg]
    rw [fval_f0] at nonneg ⊢
    linarith
  have start : Fraction f0 := ⟨by decide, by decide⟩
  have sps1 : fle f1 s.act.cfg.sps = true := fle_of_fval_le (by decide) fsps (by rw [fval_f1]; linarith)
  exact
    { legal := legal
      branches := nofun
      previous := bounded_czero
      middle := bounded_czero
      integrator := zeroDev
      period := ⟨fsps, sps1⟩
      strobePosition := start
      midPosition := start }

/-- The reset configuration is one COMMIT accepts. -/
theorem cfgReset_legal : cfgMask cfgReset = 0#17 := by decide +kernel

theorem powerOnReset_timingInv (s : State) : TimingInv (powerOnReset s) :=
  timingInv_congr (resetUnits_timingInv (s := State.reset) cfgReset_legal) rfl

/-- An admitted COMMIT resets the unit under the configuration it checked, or leaves it (R221). -/
theorem commitEffect_timingInv {s : State} (h : TimingInv s) : TimingInv (commitEffect s) := by
  unfold commitEffect
  split
  · next legal => exact resetUnits_timingInv legal
  · exact timingInv_congr h rfl

/-! ## STR_STEP and MF_STEP (R314, R402) -/

theorem timingView_raiseNumIf (b : Bool) (u : NumUnit) (s : State) : timingView (raiseNumIf b u s) = timingView s := by
  cases b <;> rfl

/-- A midpoint takes a saturated interpolant (R403). -/
theorem midpoint_timingInv {y : List Cplx} {s : State} (outputs : ∀ z ∈ y, bounded z) (h : TimingInv s) :
    TimingInv (midpoint y s) :=
  { h with middle := bounded_interp outputs s.act.n s.str.muM }

/-- A strobe keeps the loop within its bounds: its error is finite, so the filter's clamps hold the integrator and the output,
so the period and both positions have theirs (R404 to R406, R412). -/
theorem strobe_timingInv {y : List Cplx} {s : State} (smp : Idx) (outputs : ∀ z ∈ y, bounded z)
    (kp : isfinite s.act.kp = true) (ki : isfinite s.act.ki = true) (h : TimingInv s) : TimingInv (strobe y smp s) := by
  obtain ⟨dev, -⟩ := deviation_of_legal h.legal
  have sample := bounded_interp outputs s.act.n s.str.muS
  have fvi : isfinite s.str.vi = true := WithinDev.isfinite h.integrator dev
  have fe := isfinite_timingError h.previous h.middle sample
  obtain ⟨fdelta, delta1, delta128⟩ := period_bounds h.legal (loopOut_withinDev dev kp ki fvi fe)
  obtain ⟨fps, lower, upper⟩ := position_bounds h.strobePosition fdelta delta128
  obtain ⟨fhalf, half0, half128⟩ := halfPeriod_bounds fdelta (by linarith) delta128
  obtain ⟨fpm, lowerM, upperM⟩ := position_bounds h.strobePosition fhalf half128
  refine timingInv_congr ?_ (timingView_raiseNumIf _ .str _)
  exact
    { h with
      previous := sample
      integrator := loopInt_withinDev dev ki fvi fe
      period := ⟨fdelta, fle_of_fval_le (by decide) fdelta (by rwa [fval_f1])⟩
      strobePosition := posFrac_fraction fps (by linarith) (by linarith)
      midPosition := posFrac_fraction fpm (by linarith) (by linarith) }

/-- The event loop is made of midpoints and strobes (R402). -/
theorem strProcess_timingInv {s : State} {it : Item23} (outputs : ∀ z ∈ it.y, bounded z) (kp : isfinite s.act.kp = true)
    (ki : isfinite s.act.ki = true) (h : TimingInv s) : TimingInv (strProcess it s) := by
  have looped := Steps.strLoop_induction (P := fun t => t.act = s.act ∧ TimingInv t) it.y it.smp
    (fun t ⟨act, inv⟩ => ⟨act, midpoint_timingInv outputs inv⟩)
    (fun t ⟨act, inv⟩ => ⟨(Steps.strobe_act it.y it.smp t).trans act,
      strobe_timingInv it.smp outputs (act ▸ kp) (act ▸ ki) inv⟩) 3 s ⟨rfl, h⟩
  exact timingInv_congr looped.2 rfl

theorem strStep_timingInv {s : State} {it : Item23} {rest : List Item23} (oldest : s.fifo.l23 = it :: rest)
    (kp : isfinite s.act.kp = true) (ki : isfinite s.act.ki = true) (h : TimingInv s) :
    TimingInv (strProcess it { s with fifo := { s.fifo with l23 := rest } }) := by
  have outputs : ∀ z ∈ it.y, bounded z := h.branches it (by simp [oldest])
  refine strProcess_timingInv outputs kp ki ?_
  exact { h with branches := fun i hi => h.branches i (by rw [oldest]; exact List.mem_cons_of_mem _ hi) }

/-- The matched filter stages saturated outputs (R314). -/
theorem mfStep_timingInv {s : State} {it : Item12} (rest : List Item12) (staged : s.mf.outq = []) (h : TimingInv s) :
    TimingInv (mfProcess it { s with fifo := { s.fifo with l12 := rest } }) := by
  refine timingInv_congr ?_ (timingView_raiseNumIf _ .mf _)
  refine { h with branches := fun i hi y hy => ?_ }
  rcases List.mem_append.mp hi with waiting | fresh
  · exact h.branches i (List.mem_append_left _ waiting) y hy
  · rw [staged, List.nil_append, List.mem_singleton] at fresh
    subst fresh
    obtain ⟨z, -, rfl⟩ := List.mem_map.mp hy
    exact bounded_csat z

/-- A drain step moves an item of outputs at most (R110). -/
theorem drainStep_timingInv (g : Group) {s : State} (h : TimingInv s) : TimingInv (drainStep g s) := by
  cases g with
  | mf =>
    simp only [drainStep, drainMf]
    split
    · exact h
    · next it rest queue =>
      split
      · exact { h with branches := by simpa [queue] using h.branches }
      · exact h
  | agc | str | pls | cpr | dsc =>
    simp only [drainStep, drainAgc, drainStr, drainPls, drainCpr, drainDsc]
    repeat' split
    all_goals exact timingInv_congr h rfl

/-! ## Every step -/

theorem timingView_answerOkay (s : State) : timingView (answerOkay s) = timingView s := rfl

theorem timingView_csrWriteEffect (r : Csr) (w : BitVec 32) (s : State) :
    timingView (csrWriteEffect s r w) = timingView s := by
  unfold csrWriteEffect
  split <;> rfl

theorem effect_timingInv {s t : State} (effect : Steps.Effect s t) (kp : isfinite s.act.kp = true)
    (ki : isfinite s.act.ki = true) (h : TimingInv s) : TimingInv t := by
  cases effect with
  | softReset => exact timingInv_congr (resetUnits_timingInv h.legal) rfl
  | read r => exact timingInv_congr h (by cases r <;> rfl)
  | write r w => exact timingInv_congr h (timingView_csrWriteEffect r w s)
  | agcStep x rest _ _ => exact timingInv_of_acts (Groups.agcProcess_acts x) (timingInv_congr h rfl)
  | mfStep it rest _ staged => exact mfStep_timingInv rest staged h
  | strStep it rest oldest _ => exact strStep_timingInv oldest kp ki h
  | plsStep it rest _ _ => exact timingInv_of_acts (Groups.plsProcess_acts it) (timingInv_congr h rfl)
  | cprStep it rest _ _ => exact timingInv_of_acts (Groups.cprProcess_acts it) (timingInv_congr h rfl)
  | dscStep it rest _ _ => exact timingInv_of_acts (Groups.dscProcess_acts it) (timingInv_congr h rfl)
  | mix z pos => exact timingInv_of_acts (Groups.mixSymbol_acts z pos) h
  | pilotSymbol blk o s1 => exact timingInv_of_acts (Groups.pilotSymbol_acts blk o s1) h
  | drain g => exact drainStep_timingInv g h
  | none | nop | reject | start | stop | forceSearch | clearCounters | refusedRead | refusedWrite | beatTaken | beatKept
  | beatOut | noBeat | hdrTest | hdrDecode | freqUpdate | phaseRef => exact timingInv_congr h rfl

/-- Settles O57, by the inversion of a step (`agentStep_cases`); the work is the strobe's, `strobe_timingInv`. -/
theorem stepKeepsTimingLoop : Obligations.StepKeepsTimingLoop := by
  intro s t h kp ki next
  obtain rfl | ⟨a, rest, -, next⟩ := Steps.step_cases next
  · exact h
  · have h : TimingInv { s with agenda := rest } := timingInv_congr h rfl
    obtain ⟨-, rfl⟩ | ⟨-, -, rfl⟩ | effect := Steps.agentStep_cases next
    · exact powerOnReset_timingInv _
    · exact timingInv_congr (commitEffect_timingInv h) (timingView_answerOkay _)
    · exact effect_timingInv effect kp ki h

end Sys2Proof.Timing

namespace Sys2Proof.Sync

open Sys2Proof.Machine Sys2Proof.Laws Sys2Proof.Groups

/-! ## PLS_STEP with no request acting (R521, R522) -/

/-- The state in which R521 tries the synchroniser's cases when no request acts: the item is taken and counted, both requests
are cleared, and the window has slid. -/
def received (it : Item34) (rest : List Item34) (s : State) : State :=
  { s with
    fifo := { s.fifo with l34 := rest }
    pls := { s.pls with
      w := s.pls.w.drop 1 ++ [it.y]
      wsmp := s.pls.wsmp.drop 1 ++ [it.smp]
      fill := min (s.pls.fill + 1) 90
      force := false
      cforce := false
      symbolIdx := s.pls.symbolIdx + 1#64 } }

/-! The cases of R521. -/

theorem plsCase_searching {s : State} (state : s.pls.state = .searching) (it : Item34) (idx : Idx) :
    plsCase it idx s = searchStep idx s := by rw [plsCase, state]

theorem plsCase_headerFound {s : State} (state : s.pls.state = .headerFound) (it : Item34) (idx : Idx) :
    plsCase it idx s = confirmStep it.y it.smp idx s := by rw [plsCase, state]

theorem plsCase_locked {s : State} (state : s.pls.state = .locked) (it : Item34) (idx : Idx) :
    plsCase it idx s = trackStep it.y it.smp idx s := by rw [plsCase, state]

section
variable {s : State} {it : Item34} {rest : List Item34}

theorem plsEnabled_iff :
    plsEnabled s = true ↔ ∃ it rest, s.fifo.l34 = it :: rest ∧ s.ctl.running = true ∧ s.pls.outq = [] := by
  cases items : s.fifo.l34 <;> simp [plsEnabled, plsReady, items]

/-- An enabled step with no request acting runs the case of the synchroniser's state on the received symbol. -/
theorem exec_plsStep_quiet (items : s.fifo.l34 = it :: rest) (running : s.ctl.running = true) (unstaged : s.pls.outq = [])
    (calm : quiet s) : exec .plsStep s = .next (plsCase it s.pls.symbolIdx (received it rest s)) := by
  have ready := plsEnabled_iff.mpr ⟨it, rest, items, running, unstaged⟩
  have calmHere : quiet { s with fifo := { s.fifo with l34 := rest } } := calm
  rw [exec_plsStep, plsTurn, onOldest_taken items ready, plsProcess, forceCheck_quiet _ calmHere]
  rfl

end

/-- Settles O35: the three ends of SEARCH_STEP are a window that fills, a full one that is no header, and a detection. -/
theorem searchStepResult : Obligations.SearchStepResult := by
  intro s it rest items running unstaged searching w ws fill t hit tested d
  have step : exec .plsStep s = .next (searchStep s.pls.symbolIdx t) := by
    rw [exec_plsStep_quiet items running unstaged (.inl searching),
      plsCase_searching (s := received it rest s) searching]
    rfl
  rw [step, searchStep, ite_not]
  congr 1
  refine if_congr Iff.rfl ?_ rfl
  cases found : hit with
  | false => exact if_neg (by simpa [hit] using found)
  | true => exact if_pos (by simpa [hit] using found)

/-- Settles O37: TRACK_STEP before the end of the next header, on a payload symbol and on a header symbol. -/
theorem trackStepResult : Obligations.TrackStepResult := by
  intro s it rest items running unstaged locked calm before pending
  rw [exec_plsStep_quiet items running unstaged calm, plsCase_locked (s := received it rest s) locked]
  have later : s.pls.cnt - 1 ≠ 0 := by omega
  congr 1
  by_cases payload : 90 ≤ s.pls.cnt - 1
  · cases forwarded : s.pls.fwd <;>
      simp [trackStep, received, emit, payload, forwarded, unstaged]
  · simp [trackStep, received, payload, later, unstaged]

/-! ## The end of a held header (R525) -/

/-- START_FRAME in one update (R532, R536, R537). -/
theorem startFrame_update (p : BitVec 7) (s : State) :
    let fwd := !isDummy p && !isFiltered s.act.cfg p
    let drop := !isDummy p && isFiltered s.act.cfg p
    startFrame p s = { s with
      pls := { s.pls with fwd := fwd, fid := if fwd = true then s.pls.fid + 1#32 else s.pls.fid }
      cnt := { s.cnt with dropCnt := if drop = true then s.cnt.dropCnt + 1#32 else s.cnt.dropCnt }
      ctl := { s.ctl with irqStatus := if drop = true then s.ctl.irqStatus ||| 0x100#10 else s.ctl.irqStatus } } := by
  dsimp only
  rw [startFrame_eq]
  cases isDummy p with
  | true => rfl
  | false => cases isFiltered s.act.cfg p <;> rfl

/-- A rejected decode is a false alarm: the step is the one a search makes from the same window (R525). -/
theorem confirmStep_rejected {s : State} {d : Pend} (held : s.pls.pend = some d) (rejected : d.dec.ok = false) (y : Cplx)
    (smp idx : Idx) :
    confirmStep y smp idx s = searchStep idx { s with pls := { s.pls with state := .searching, pend := none } } := by
  simp only [confirmStep, held, rejected, Bool.false_eq_true, if_false]

theorem confirmStep_accepted {s : State} {d : Pend} (held : s.pls.pend = some d) (accepted : d.dec.ok = true) (y : Cplx)
    (smp idx : Idx) :
    confirmStep y smp idx s =
      clearPend
        (if (enterLock d s).pls.fwd then emit y smp 90 (emitHeader d.w d.wsmp (enterLock d s)) else enterLock d s) := by
  simp only [confirmStep, held, accepted, if_true]

/-- Settles O36: the lock by `startFrame_update` and `emitHeader_eq`, the false alarm by `confirmStep_rejected`. -/
theorem confirmStepResult : Obligations.ConfirmStepResult := by
  constructor
  case left =>
    intro s it rest d items running unstaged found calm held accepted p drop fwd fid
    rw [exec_plsStep_quiet items running unstaged calm, plsCase_headerFound (s := received it rest s) found,
      confirmStep_accepted (s := received it rest s) held accepted, enterLock, startFrame_update]
    have fwd_eq : (!isDummy d.dec.pls && !isFiltered s.act.cfg d.dec.pls) = fwd := rfl
    have drop_eq : (!isDummy d.dec.pls && isFiltered s.act.cfg d.dec.pls) = drop := rfl
    simp only [emitHeader_eq, emit, clearPend, received, irqSet, lastHdr, eventMask, fwd_eq, drop_eq, unstaged,
      BitVec.or_assoc]
    obtain forwarded | kept := Bool.eq_false_or_eq_true fwd
    · simp only [fid, forwarded, if_true, List.nil_append]
      rfl
    · simp only [fid, kept, Bool.false_eq_true, if_false]
      rfl
  case right =>
    intro s d found calm held rejected
    split
    · next ready =>
      obtain ⟨it, rest, items, running, unstaged⟩ := plsEnabled_iff.mp ready
      have searching := exec_plsStep_quiet (s := { s with pls := { s.pls with state := .searching, pend := none } })
        items running unstaged (.inl rfl)
      rw [exec_plsStep_quiet items running unstaged calm, searching, plsCase_headerFound (s := received it rest s) found,
        confirmStep_rejected (s := received it rest s) held rejected]
      rfl
    · next idle =>
      rw [exec_plsStep, plsTurn, onOldest]
      split
      · rfl
      · rw [if_neg idle]

/-! ## The header check in lock (R527) -/

/-- The state CHECK starts from: the last symbol of the next header is in the window and the count is 0. -/
def headerEnd (it : Item34) (rest : List Item34) (s : State) : State :=
  { received it rest s with pls := { (received it rest s).pls with cnt := 0 } }

theorem exec_plsStep_check {s : State} {it : Item34} {rest : List Item34} (items : s.fifo.l34 = it :: rest)
    (running : s.ctl.running = true) (unstaged : s.pls.outq = []) (locked : s.pls.state = .locked) (calm : quiet s)
    (last : s.pls.cnt = 1) : exec .plsStep s = .next (check s.pls.symbolIdx (headerEnd it rest s)) := by
  rw [exec_plsStep_quiet items running unstaged calm, plsCase_locked (s := received it rest s) locked]
  simp [trackStep, received, headerEnd, last]

/-- The failed check in one update: unless it is a dummy, the frame is dropped. -/
theorem failHeader_update (p : BitVec 7) {s : State} (unstaged : s.pls.outq = []) :
    failHeader p s = { s with
      pls := { s.pls with fwd := false, outq := [] }
      cnt := { s.cnt with dropCnt := if (!isDummy p) = true then s.cnt.dropCnt + 1#32 else s.cnt.dropCnt }
      ctl := { s.ctl with
        irqStatus := if (!isDummy p) = true then s.ctl.irqStatus ||| 0x100#10 else s.ctl.irqStatus } } := by
  rw [← unstaged]
  simp only [failHeader, isDummy, Bool.not_eq_true', beq_eq_false_iff_ne, ne_eq, ite_not]
  split <;> rfl

/-- The accepted header in one update: its position is reported, and a forwarded frame's header is staged. -/
theorem acceptHeader_update (p : BitVec 7) (idx : Idx) {s : State} (unstaged : s.pls.outq = []) :
    let fwd := !isDummy p && !isFiltered s.act.cfg p
    let drop := !isDummy p && isFiltered s.act.cfg p
    let fid := if fwd = true then s.pls.fid + 1#32 else s.pls.fid
    acceptHeader p idx s = { s with
      pls := { s.pls with
        fwd := fwd
        fid := fid
        outq := if fwd = true then headerItems s.pls.w s.pls.wsmp s.pls.epoch fid s.pls.curPls else [] }
      live := { s.live with lastHdrSym := idx - 89#64, lastHdrSmp := s.pls.wsmp.getD 0 0#64 }
      cnt := { s.cnt with dropCnt := if drop = true then s.cnt.dropCnt + 1#32 else s.cnt.dropCnt }
      ctl := { s.ctl with irqStatus := if drop = true then s.ctl.irqStatus ||| 0x100#10 else s.ctl.irqStatus } } := by
  dsimp only
  rw [acceptHeader, startFrame_update]
  simp only [emitHeader_eq, lastHdr, unstaged, List.nil_append]
  obtain forwarded | kept := Bool.eq_false_or_eq_true (!isDummy p && !isFiltered s.act.cfg p)
  · simp only [forwarded, if_true]
    rfl
  · simp only [kept, Bool.false_eq_true, if_false]
    rfl

/-- Settles O38: a lost lock is `enterSearch`; a kept one tracks the frame, whose header `acceptHeader_update` and
`failHeader_update` treat. -/
theorem checkResult : Obligations.CheckResult := by
  intro s it rest items running unstaged locked calm last c w ws hit d miss mm lost p good fwd drop fid t
  let u : State := { t with
    pls := { t.pls with w := w, wsmp := ws, fill := min (s.pls.fill + 1) 90, cnt := 0, miss := miss, mm := mm } }
  have checked : checkHeader (headerEnd it rest s) = u := rfl
  have lost_iff : lockIsLost u = true ↔ lost := by
    rw [lockIsLost, Bool.or_eq_true, decide_eq_true_eq, decide_eq_true_eq]
  have tracked : trackedPls u = p := rfl
  have still : (trackFrame p u).pls.outq = [] := unstaged
  rw [exec_plsStep_check items running unstaged locked calm last, check, checked]
  clear_value hit d miss mm w ws
  dsimp only
  congr 1
  refine if_congr lost_iff ?_ ?_
  · rfl
  rw [tracked]
  change (if good = true then acceptHeader p _ _ else failHeader p _) = _
  cases accepted : good with
  | true =>
    have fwd_eq : fwd = (!isDummy p && !isFiltered c p) := congrArg (· && !isDummy p && !isFiltered c p) accepted
    have drop_eq : drop = (!isDummy p && isFiltered c p) := by simp [drop, accepted]
    rw [if_pos rfl, acceptHeader_update p _ still]
    simp only [fid, fwd_eq, drop_eq]
    rfl
  | false =>
    have fwd_eq : fwd = false := congrArg (· && !isDummy p && !isFiltered c p) accepted
    have drop_eq : drop = !isDummy p := by simp [drop, accepted]
    rw [if_neg nofun, failHeader_update p still]
    simp only [fid, fwd_eq, drop_eq]
    rfl

/-! ## What locks the synchroniser (R525) -/

/-- At every step a request acts or none does (R530). -/
theorem quiet_or_forced (s : State) : quiet s ∨ forced s := by
  grind [quiet, forced]

/-- SEARCH_STEP holds a header at most: it does not lock (R523). -/
theorem searchStep_unlocked {s : State} (searching : s.pls.state = .searching) (idx : Idx) :
    (searchStep idx s).pls.state ≠ .locked := by
  unfold searchStep
  dsimp only
  split
  · split
    · exact nofun
    · simp [searching]
  · simp [searching]

/-- What the symbol after a header does: it confirms an accepted decode, or searches on (R525). -/
theorem confirmStep_cases (y : Cplx) (smp idx : Idx) (s : State) :
    (∃ d, s.pls.pend = some d ∧ d.dec.ok = true)
      ∨ ∃ u, u.pls.state = .searching ∧ confirmStep y smp idx s = searchStep idx u := by
  cases pend : s.pls.pend with
  | none => exact .inr ⟨{ s with pls := { s.pls with state := .searching } }, rfl, by simp only [confirmStep, pend]⟩
  | some d =>
    cases accepted : d.dec.ok with
    | true => exact .inl ⟨d, rfl, accepted⟩
    | false => exact .inr ⟨_, rfl, confirmStep_rejected pend accepted y smp idx⟩

/-- A PLS_STEP that locks: it confirms a held header whose decode was accepted. -/
theorem locks_of_plsStep {s t : State} (h : exec .plsStep s = .next t) (unlocked : s.pls.state ≠ .locked)
    (locks : t.pls.state = .locked) :
    s.pls.state = .headerFound ∧ (∃ d, s.pls.pend = some d ∧ d.dec.ok = true)
      ∧ t.cnt.acqCnt = s.cnt.acqCnt + 1#32 ∧ t.ctl.irqStatus.getLsbD 0 = true := by
  obtain ⟨it, rest, items, running, unstaged, -⟩ | idle := execPlsStep_cases s
  case inr =>
    cases idle.symm.trans h
    exact absurd locks unlocked
  obtain calm | acts := quiet_or_forced s
  case inr =>
    cases (forcedSearch s it rest items running unstaged acts).symm.trans h
    cases locks
  have step : t = plsCase it s.pls.symbolIdx (received it rest s) :=
    Host.Outcome.next.inj (h.symm.trans (exec_plsStep_quiet items running unstaged calm))
  cases state : s.pls.state with
  | locked => exact absurd state unlocked
  | searching =>
    rw [step, plsCase_searching (s := received it rest s) state] at locks
    exact absurd locks (searchStep_unlocked (s := received it rest s) state _)
  | headerFound =>
    obtain ⟨d, held, accepted⟩ | ⟨u, searching, alarm⟩ :=
      confirmStep_cases it.y it.smp s.pls.symbolIdx (received it rest s)
    · cases (confirmStepResult.1 s it rest d items running unstaged state calm held accepted).symm.trans h
      refine ⟨rfl, ⟨d, held, accepted⟩, rfl, ?_⟩
      dsimp only
      split <;> simp
    · rw [step, plsCase_headerFound (s := received it rest s) state, alarm] at locks
      exact absurd locks (searchStep_unlocked searching _)

/-- The step does not lock the synchroniser. -/
def NoLock (s t : State) : Prop := t.pls.state = .locked → s.pls.state = .locked

theorem noLock_of_pls {s t : State} (same : t.pls = s.pls) : NoLock s t := fun locks => same ▸ locks

theorem noLock_of_syncView {s t : State} (same : Steps.syncView t = Steps.syncView s) : NoLock s t :=
  fun locks => (congrArg (·.pls.state) same).symm.trans locks

/-- An operation that waits for an enabling condition does not lock when what it does then does not. -/
theorem noLock_of_guard {s t u : State} {ready : Bool} (run : NoLock s u)
    (h : (if ready = true then Host.Outcome.next (φ := Fault) (ρ := Refusal) u else .next s) = .next t) : NoLock s t := by
  split at h <;> cases h
  · exact run
  · exact id

theorem commitEffect_noLock (s : State) : NoLock s (commitEffect s) := by
  unfold commitEffect
  split
  · exact nofun
  · exact id

theorem cmdCommit_noLock (s : State) : NoLock s (cmdCommit s) := by
  unfold cmdCommit
  split
  · exact id
  · exact commitEffect_noLock s

theorem csrReadEffect_pls (r : Csr) (s : State) : (csrReadEffect s r).pls = s.pls := by cases r <;> rfl

theorem drainStep_noLock (g : Group) (s : State) : NoLock s (drainStep g s) := by
  cases g <;> simp only [drainStep, drainAgc, drainMf, drainStr, drainPls, drainCpr, drainDsc]
  all_goals
    repeat' split
    all_goals exact id

/-- No operation but PLS_STEP locks. -/
theorem exec_noLock {s t : State} {i : Instr} (h : exec i s = .next t) (notPls : i ≠ .plsStep)
    (notCmd : ∀ off size w, i = .csrWrite off size w → isCommandWrite off size = false) : NoLock s t := by
  cases i with
  | plsStep => exact absurd rfl notPls
  | softReset => cases h; exact nofun
  | nop | stop | forceSearch | clearCounters => cases h; exact id
  | commit =>
    cases h
    exact cmdCommit_noLock s
  | start =>
    simp only [exec, execStart, cmdStart] at h
    split at h <;> cases h <;> exact id
  | reserved w =>
    simp only [exec, execReserved, cmdReserved] at h
    repeat' split at h
    all_goals cases h; exact id
  | csrRead off size =>
    simp only [exec, execCsrRead] at h
    split at h <;> cases h
    · exact id
    · next r _ => exact noLock_of_pls (csrReadEffect_pls r s)
  | csrWrite off size w =>
    simp only [exec, execCsrWrite] at h
    split at h
    · cases h; exact id
    · next reached =>
      obtain ⟨rfl, rfl⟩ := admitted_eq_some reached
      exact absurd (notCmd _ _ w rfl) (by decide)
    · next r _ _ => cases h; exact noLock_of_pls (csrWriteEffect_pls r w s)
  | inBeat i q =>
    simp only [exec, execInBeat] at h
    split at h <;> cases h <;> exact id
  | outBeat =>
    simp only [exec, execOutBeat] at h
    split at h <;> cases h <;> exact id
  | agcStep =>
    obtain ⟨x, rest, -, -, -, taken⟩ | kept := execAgcStep_cases s
    · cases taken.symm.trans h; exact noLock_of_pls (raiseNumIf_pls _ .agc _)
    · cases kept.symm.trans h; exact id
  | mfStep =>
    obtain ⟨it, rest, -, -, -, taken⟩ | kept := execMfStep_cases s
    · cases taken.symm.trans h; exact noLock_of_pls (raiseNumIf_pls _ .mf _)
    · cases kept.symm.trans h; exact id
  | strStep =>
    obtain ⟨it, rest, -, -, -, taken⟩ | kept := execStrStep_cases s
    · cases taken.symm.trans h; exact noLock_of_pls (strLoop_pls it.y it.smp 3 _)
    · cases kept.symm.trans h; exact id
  | dscStep =>
    obtain ⟨it, rest, -, -, -, taken⟩ | kept := execDscStep_cases s
    · cases taken.symm.trans h; cases it <;> exact id
    · cases kept.symm.trans h; exact id
  | hdrTest => exact noLock_of_guard (u := hdrTest s) id h
  | hdrDecode => exact noLock_of_guard (u := hdrDecode s) id h
  | freqUpdate => exact noLock_of_guard (u := freqUpdate s) id h
  | phaseRef => exact noLock_of_guard (u := phaseRef s) id h
  | mix z pos => exact noLock_of_guard (noLock_of_syncView (Steps.mixSymbol_carrier z pos.toNat s).sync) h
  | pilotSymbol blk o s1 =>
    exact noLock_of_guard (noLock_of_syncView (Steps.pilotSymbol_carrier blk.toNat o.toNat s1 s).sync) h

/-- Settles O40: no agent but the one that presents PLS_STEP locks (`exec_noLock`), and PLS_STEP does so as
`locks_of_plsStep` says. -/
theorem onlyConfirmationLocks : Obligations.OnlyConfirmationLocks := by
  intro s t a h unlocked locks
  cases a with
  | powerOn => cases h; cases locks
  | drain g => cases h; exact absurd (drainStep_noLock g s locks) unlocked
  | cprStep =>
    cases h
    obtain ⟨it, rest, -, -, -, taken⟩ | kept := cprStep_cases s
    · rw [taken] at locks
      exact absurd (noLock_of_syncView (Steps.cprProcess_carrier it _).sync locks) unlocked
    · rw [kept] at locks
      exact absurd locks unlocked
  | present p =>
    cases decoded : decode p with
    | error why => simp [agentStep, decoded] at h
    | ok i =>
      rw [Steps.agentStep_present decoded] at h
      by_cases pls : i = .plsStep
      · subst pls
        exact ⟨⟨p, rfl, decoded⟩, locks_of_plsStep h unlocked locks⟩
      · refine absurd (exec_noLock h pls ?_ locks) unlocked
        rintro off size w rfl
        exact Steps.decode_csrWrite decoded

end Sys2Proof.Sync

namespace Sys2Proof.Plsc

open Sys2Proof.Machine

/-! ## Numbers written most significant bit first (R504, R511) -/

theorem bitsMsb_append_singleton (l : List Bool) (b : Bool) : bitsMsb (l ++ [b]) = Nat.bit b (bitsMsb l) := by
  rw [bitsMsb, List.foldl_append, Nat.bit_val]
  rfl

/-- The bit of place `i` from the top of `n` bits. -/
theorem testBit_bitsMsb (f : Nat → Bool) {n i : Nat} (h : i < n) :
    (bitsMsb ((List.range n).map f)).testBit (n - 1 - i) = f i := by
  induction n with
  | zero => omega
  | succ n ih =>
    rw [List.range_succ, List.map_append, List.map_singleton, bitsMsb_append_singleton]
    obtain rfl | lower := Nat.eq_or_lt_of_le (Nat.le_of_lt_succ h)
    · rw [show i + 1 - 1 - i = 0 by omega, Nat.testBit_bit_zero]
    · rw [show n + 1 - 1 - i = (n - 1 - i) + 1 by omega, Nat.testBit_bit_succ, ih lower]

theorem getLsbD_ofNat_bitsMsb (f : Nat → Bool) {m : Nat} (h : m < 64) :
    (BitVec.ofNat 64 (bitsMsb ((List.range 64).map f))).getLsbD (63 - m) = f m := by
  rw [BitVec.getLsbD_ofNat, testBit_bitsMsb f h, decide_eq_true (by omega), Bool.true_and]

/-! ## The codeword (R504) -/

/-- Bit `m` of `u`, counted from the top: a bit of `y`, or the same with `b7` added (R504). -/
def uBit (p : BitVec 7) (m : Nat) : Bool :=
  if m % 2 = 0 then (plscY p).testBit (31 - m / 2) else (plscY p).testBit (31 - m / 2) ^^ p.getLsbD 0

theorem plscU_eq (p : BitVec 7) : plscU p = bitsMsb ((List.range 64).map (uBit p)) := by
  have pairs : (List.range 64).map (uBit p) = (List.range 32).flatMap fun j =>
      [(plscY p).testBit (31 - j), (plscY p).testBit (31 - j) ^^ p.getLsbD 0] := rfl
  rw [pairs, bitsMsb, List.foldl_flatMap, plscU]
  congr 1
  funext acc j
  simp only [List.foldl_cons, List.foldl_nil]
  ring

theorem getLsbD_plscCode (p : BitVec 7) {m : Nat} (h : m < 64) :
    (plscCode p).getLsbD (63 - m) = (uBit p m ^^ (0x719D83C953422DFA#64).getLsbD (63 - m)) := by
  rw [plscCode, BitVec.getLsbD_xor, plscU_eq, getLsbD_ofNat_bitsMsb _ h]

/-- `y` as the sum of the selected rows in 32-bit words. -/
theorem ofNat_plscY (p : BitVec 7) :
    (List.range 6).foldl (fun acc r => if p.getLsbD (6 - r) = true then
        acc ^^^ [0x55555555#32, 0x33333333#32, 0x0F0F0F0F#32, 0x00FF00FF#32, 0x0000FFFF#32, 0xFFFFFFFF#32].getD r 0#32
      else acc) 0#32 = BitVec.ofNat 32 (plscY p) := by
  revert p
  decide +kernel

/-- The sum of the rows that a value selects is linear in the value. -/
theorem foldl_rows_xor (p q : BitVec 7) (rows : List (Nat × Nat)) (a b : Nat) :
    rows.foldl (fun acc g => if (p ^^^ q).getLsbD (6 - g.2) then acc ^^^ g.1 else acc) (a ^^^ b) =
      rows.foldl (fun acc g => if p.getLsbD (6 - g.2) then acc ^^^ g.1 else acc) a
        ^^^ rows.foldl (fun acc g => if q.getLsbD (6 - g.2) then acc ^^^ g.1 else acc) b := by
  induction rows generalizing a b with
  | nil => rfl
  | cons g rows ih =>
    simp only [List.foldl_cons]
    rw [← ih]
    congr 1
    rw [BitVec.getLsbD_xor]
    cases p.getLsbD (6 - g.2) <;> cases q.getLsbD (6 - g.2)
    · rfl
    · exact Nat.xor_assoc _ _ _
    · exact Nat.xor_right_comm _ _ _
    · simp [Nat.xor_assoc, Nat.xor_left_comm g.1]

theorem plscY_xor (p q : BitVec 7) : plscY (p ^^^ q) = plscY p ^^^ plscY q := foldl_rows_xor p q _ 0 0

theorem uBit_xor (p q : BitVec 7) (m : Nat) : uBit (p ^^^ q) m = (uBit p m ^^ uBit q m) := by
  simp only [uBit, plscY_xor, Nat.testBit_xor, BitVec.getLsbD_xor]
  split
  · rfl
  · simp only [Bool.xor_assoc, Bool.xor_left_comm (p.getLsbD 0)]

/-- The code is an affine space: two codewords differ as the codeword of their difference and that of 0 do. -/
theorem plscCode_xor (p q : BitVec 7) : plscCode p ^^^ plscCode q = plscCode (p ^^^ q) ^^^ plscCode 0#7 := by
  refine BitVec.eq_of_getLsbD_eq fun i hi => ?_
  have zero (m : Nat) : uBit 0#7 m = false := by simpa using uBit_xor 0#7 0#7 m
  obtain ⟨m, hm, rfl⟩ : ∃ m < 64, i = 63 - m := ⟨63 - i, by omega, by omega⟩
  simp only [BitVec.getLsbD_xor, getLsbD_plscCode _ hm, uBit_xor, zero]
  cases uBit p m <;> cases uBit q m <;> simp

/-! ## The distance (R512) -/

theorem foldl_add_toNat (f : Nat → Bool) (l : List Nat) (a : Nat) :
    l.foldl (fun acc k => acc + (f k).toNat) a = a + l.countP f := by
  induction l generalizing a with
  | nil => rfl
  | cons k l ih =>
    rw [List.foldl_cons, ih, List.countP_cons]
    cases f k <;> simp
    omega

theorem popcount64_eq_countP (v : BitVec 64) : popcount64 v = (List.range 64).countP (v.getLsbD ·) :=
  (foldl_add_toNat _ _ 0).trans (Nat.zero_add _)

theorem countP_xor_le (f g : Nat → Bool) (l : List Nat) :
    l.countP (fun k => f k ^^ g k) ≤ l.countP f + l.countP g := by
  induction l with
  | nil => exact le_rfl
  | cons k l ih =>
    simp only [List.countP_cons]
    cases f k <;> cases g k <;> simp <;> omega

theorem popcount64_xor_le (v w : BitVec 64) : popcount64 (v ^^^ w) ≤ popcount64 v + popcount64 w := by
  simp only [popcount64_eq_countP, BitVec.getLsbD_xor]
  exact countP_xor_le _ _ _

/-- The least weight of the code. -/
theorem plscCode_weight (p : BitVec 7) : p ≠ 0#7 → 32 ≤ popcount64 (plscCode p ^^^ plscCode 0#7) := by
  revert p
  decide +kernel

/-- Two codewords differ in at least 32 places. -/
theorem plscCode_distance {p q : BitVec 7} (h : p ≠ q) : 32 ≤ popcount64 (plscCode p ^^^ plscCode q) := by
  rw [plscCode_xor]
  exact plscCode_weight _ (mt BitVec.xor_eq_zero_iff.mp h)

/-! ## The decision (R512) -/

/-- Among the values up to `k` the decision is of least distance, and the least such value. -/
theorem nearestUpTo_spec (word : BitVec 64) {k : Nat} (hk : k < 128) :
    (nearestUpTo word k).toNat ≤ k ∧ ∀ p : BitVec 7, p.toNat ≤ k →
      codeDist word (nearestUpTo word k) ≤ codeDist word p
        ∧ (codeDist word p = codeDist word (nearestUpTo word k) → (nearestUpTo word k).toNat ≤ p.toNat) := by
  induction k with
  | zero =>
    refine ⟨le_rfl, fun p hp => ?_⟩
    obtain rfl : p = 0#7 := BitVec.eq_of_toNat_eq (Nat.le_zero.mp hp)
    exact ⟨le_rfl, fun _ => le_rfl⟩
  | succ k ih =>
    obtain ⟨bound, least⟩ := ih (by omega)
    have value : (BitVec.ofNat 7 (k + 1)).toNat = k + 1 := Nat.mod_eq_of_lt hk
    have new (p : BitVec 7) (hp : p.toNat ≤ k + 1) : p.toNat ≤ k ∨ p = BitVec.ofNat 7 (k + 1) :=
      (Nat.le_succ_iff.mp hp).imp_right fun top => BitVec.eq_of_toNat_eq (top.trans value.symm)
    simp only [nearestUpTo]
    split
    · next nearer =>
      refine ⟨value.le, fun p hp => ?_⟩
      obtain old | rfl := new p hp
      · have := (least p old).1
        exact ⟨by omega, fun tie => by omega⟩
      · exact ⟨le_rfl, fun _ => le_rfl⟩
    · next farther =>
      refine ⟨by omega, fun p hp => ?_⟩
      obtain old | rfl := new p hp
      · exact least p old
      · exact ⟨by omega, fun _ => by omega⟩

theorem nearestPls_spec (word : BitVec 64) (p : BitVec 7) :
    codeDist word (nearestPls word) ≤ codeDist word p
      ∧ (codeDist word p = codeDist word (nearestPls word) → (nearestPls word).toNat ≤ p.toNat) :=
  (nearestUpTo_spec word (by decide : 127 < 128)).2 p (Nat.le_of_lt_succ p.isLt)

/-- The distance to the codeword sent is the number of errors. -/
theorem codeDist_sent (p : BitVec 7) (err : BitVec 64) : codeDist (plscCode p ^^^ err) p = popcount64 err := by
  rw [codeDist, BitVec.xor_comm (plscCode p), BitVec.xor_assoc, BitVec.xor_self, BitVec.xor_zero]

/-- Up to 15 errors leave the codeword sent the nearest: any other is at least 17 places away. -/
theorem nearestPls_corrects (p : BitVec 7) {err : BitVec 64} (few : popcount64 err ≤ 15) :
    nearestPls (plscCode p ^^^ err) = p := by
  by_contra other
  have nearest := (nearestPls_spec (plscCode p ^^^ err) p).1
  generalize nearestPls (plscCode p ^^^ err) = q at other nearest
  have difference : plscCode q ^^^ plscCode p = (plscCode p ^^^ err ^^^ plscCode q) ^^^ err := by
    rw [BitVec.xor_comm (plscCode p ^^^ err), BitVec.xor_assoc, BitVec.xor_assoc, BitVec.xor_self, BitVec.xor_zero]
  have apart := plscCode_distance other
  have triangle := popcount64_xor_le (plscCode p ^^^ err ^^^ plscCode q) err
  rw [codeDist_sent, codeDist] at nearest
  rw [difference] at apart
  omega

theorem nearestPls_plscCode (p : BitVec 7) : nearestPls (plscCode p) = p ∧ codeDist (plscCode p) p = 0 := by
  have none : popcount64 0#64 = 0 := by decide
  have sent := codeDist_sent p 0#64
  have nearest := nearestPls_corrects p (err := 0#64) (by omega)
  rw [BitVec.xor_zero] at sent nearest
  exact ⟨nearest, sent.trans none⟩

/-- Settles O31: the bits by `getLsbD_plscCode`, the decision by `nearestPls_spec` and `nearestPls_corrects`. -/
theorem nearestCodewordDecision : Obligations.NearestCodewordDecision := by
  refine ⟨?bits, by decide +kernel, by decide +kernel, by decide +kernel, by decide +kernel, fun v => ?count,
    fun word p => rfl, nearestPls_spec, fun p err few => ⟨nearestPls_corrects p few, codeDist_sent p err⟩⟩
  case bits =>
    intro p m hm g y u
    have bit : y.getLsbD (31 - m / 2) = (plscY p).testBit (31 - m / 2) := by
      rw [show y = BitVec.ofNat 32 (plscY p) from ofNat_plscY p, BitVec.getLsbD_ofNat, decide_eq_true (by omega),
        Bool.true_and]
    have sum : u = uBit p m := by simp only [u, uBit, bit]
    rw [getLsbD_plscCode p hm, sum]
  case count => rw [popcount64_eq_countP, List.countP_eq_length_filter]

end Sys2Proof.Plsc

namespace Sys2Proof.Frames

open Sys2Proof.Machine

/-! ## The fields of a PLS value (R501, R503, R507, R520) -/

theorem modcodOf_eq (p : BitVec 7) : modcodOf p = p.toNat / 4 := by
  have := p.isLt
  simp only [modcodOf, field]
  omega

/-- The rows of the slot table (R503). -/
theorem slots_rows (p : BitVec 7) :
    (modcodOf p = 0 → slots p = 36)
      ∧ (1 ≤ modcodOf p → modcodOf p ≤ 11 → slots p = if isShort p = true then 90 else 360)
      ∧ (12 ≤ modcodOf p → modcodOf p ≤ 17 → slots p = if isShort p = true then 60 else 240)
      ∧ (18 ≤ modcodOf p → modcodOf p ≤ 23 → slots p = if isShort p = true then 45 else 180)
      ∧ (24 ≤ modcodOf p → modcodOf p ≤ 28 → slots p = if isShort p = true then 36 else 144) := by
  simp only [slots]
  refine ⟨fun row => if_pos row, fun lo hi => ?_, fun lo hi => ?_, fun lo hi => ?_, fun lo hi => ?_⟩
  · rw [if_neg (by omega), if_pos hi]
  · rw [if_neg (by omega), if_neg (by omega), if_pos hi]
  · rw [if_neg (by omega), if_neg (by omega), if_neg (by omega), if_pos hi]
  · rw [if_neg (by omega), if_neg (by omega), if_neg (by omega), if_neg (by omega), if_pos hi]

/-- A supported frame has at least 36 slots (R503, R507). -/
theorem slots_pos {p : BitVec 7} (legal : modcodOf p ≤ 28) : 36 ≤ slots p := by
  simp only [slots]
  split_ifs <;> omega

theorem pilotBlocks_eq (p : BitVec 7) :
    pilotBlocks p = if p.getLsbD 0 = true ∧ modcodOf p ≠ 0 then (slots p - 1) / 16 else 0 := by
  simp only [pilotBlocks, hasPilots, Bool.and_eq_true, bne_iff_ne]

theorem supported_iff (p : BitVec 7) :
    supported p = true ↔ modcodOf p ≤ 28 ∧ ¬ (isShort p = true ∧ modcodOf p ∈ [11, 17, 23, 28]) := by
  simp only [supported, Bool.and_eq_true, decide_eq_true_eq, Bool.not_eq_true', ← Bool.not_eq_true, List.contains_iff_mem]

/-- Every pilot block lies before the last slot (R506). -/
theorem pilotBlocks_lt_slots {p : BitVec 7} (legal : modcodOf p ≤ 28) : 16 * pilotBlocks p + 1 ≤ slots p := by
  have := slots_pos legal
  rw [pilotBlocks_eq]
  split <;> omega

/-! ## Positions (R506) -/

/-- The data symbol `d` stands after the header, the data before it, and the pilot blocks, each of which 1440 data symbols
precede. -/
theorem posClass_eq_data_iff (n pos d : Nat) :
    posClass n pos = .data d ↔ pos = 90 + d + 36 * min (d / 1440) n := by
  simp only [posClass]
  split
  · simp only [reduceCtorEq, false_iff]
    omega
  · split
    · simp only [reduceCtorEq, false_iff]
      omega
    · simp only [PosClass.data.injEq]
      omega

theorem posClass_eq_header {n pos k : Nat} (h : posClass n pos = .header k) : k = pos ∧ k < 90 := by
  simp only [posClass] at h
  split at h
  · cases h; omega
  · split at h <;> cases h

theorem posClass_eq_pilot {n pos blk o : Nat} (h : posClass n pos = .pilot blk o) :
    blk < n ∧ o < 36 ∧ pos = 90 + 1476 * blk + 1440 + o := by
  simp only [posClass] at h
  split at h
  · cases h
  · split at h
    · cases h; omega
    · cases h

/-! A frame of `count` slots, and of `n` pilot blocks that lie before the last slot. -/

theorem data_lt_of_pos {n count pos d : Nat} (blocks : 16 * n + 1 ≤ count) (h : posClass n pos = .data d)
    (within : pos < 90 * (count + 1) + 36 * n) : d < 90 * count ∧ 90 ≤ pos := by
  rw [posClass_eq_data_iff] at h
  omega

theorem exists_pos_of_data {n count d : Nat} (h : d < 90 * count) :
    ∃ pos, pos < 90 * (count + 1) + 36 * n ∧ posClass n pos = .data d
      ∧ ∀ q, q < 90 * (count + 1) + 36 * n → posClass n q = .data d → q = pos :=
  ⟨90 + d + 36 * min (d / 1440) n, by omega, (posClass_eq_data_iff _ _ _).mpr rfl,
    fun _ _ same => (posClass_eq_data_iff _ _ _).mp same⟩

theorem posClass_last {n count : Nat} (blocks : 16 * n + 1 ≤ count) :
    posClass n (90 * (count + 1) + 36 * n - 1) = .data (90 * count - 1) := by
  rw [posClass_eq_data_iff]
  omega

/-- Settles O32: the table by `slots_rows`, the layout by `posClass_eq_data_iff`. -/
theorem frameLayout : Obligations.FrameLayout := by
  refine ⟨?table, fun n pos => rfl, ?layout⟩
  case table =>
    intro p m
    have rows := slots_rows p
    have blocks := pilotBlocks_eq p
    have legal := supported_iff p
    have length : frameLen p = if modcodOf p = 0 then 3330 else 90 * (slots p + 1) + 36 * pilotBlocks p := rfl
    rw [modcodOf_eq] at rows blocks legal length
    obtain ⟨dummy, row1, row2, row3, row4⟩ := rows
    exact ⟨modcodOf_eq p, rfl, dummy, row1, row2, row3, row4, rfl, blocks, length, legal⟩
  case layout =>
    intro p legal real
    have blocks := pilotBlocks_lt_slots ((supported_iff p).mp legal).1
    rw [frameLen, if_neg real]
    refine ⟨fun pos within => ?_, fun d hd => exists_pos_of_data hd, posClass_last blocks⟩
    split
    · next k h => exact posClass_eq_header h
    · next blk o h => exact posClass_eq_pilot h
    · next d h => exact data_lt_of_pos blocks h within

end Sys2Proof.Frames

namespace Sys2Proof.Header

open Sys2Proof.Machine Sys2Proof.Laws Sys2Proof.Plsc

/-! ## The header bits (R500, R504, R505) -/

theorem headerBit_sof (p : BitVec 7) {k : Nat} (h : k < 26) : headerBit p k = sofBit k := if_pos (Nat.le_of_lt_succ h)

theorem headerBit_plsc (p : BitVec 7) (m : Nat) : headerBit p (26 + m) = (plscCode p).getLsbD (63 - m) := by
  rw [headerBit, if_neg (by omega), show 89 - (26 + m) = 63 - m by omega]

/-- Within a pair the second bit differs from the first as in the codeword of 0, or, when `b7` = 1, the other way. -/
theorem headerBit_pair (p : BitVec 7) {i : Nat} (h : i < 32) :
    (headerBit p (27 + 2 * i) ^^ headerBit 0#7 (27 + 2 * i)) =
      (headerBit p (26 + 2 * i) ^^ headerBit 0#7 (26 + 2 * i) ^^ p.getLsbD 0) := by
  have zero (m : Nat) : uBit 0#7 m = false := by simpa using uBit_xor 0#7 0#7 m
  have leading : uBit p (2 * i) = (plscY p).testBit (31 - i) := by simp [uBit]
  have trailing : uBit p (2 * i + 1) = ((plscY p).testBit (31 - i) ^^ p.getLsbD 0) := by
    rw [uBit, if_neg (by omega), show (2 * i + 1) / 2 = i by omega]
  rw [show 27 + 2 * i = 26 + (2 * i + 1) by omega]
  simp only [headerBit_plsc, getLsbD_plscCode _ (show 2 * i < 64 by omega), getLsbD_plscCode _ (show 2 * i + 1 < 64 by omega),
    zero, leading, trailing]
  grind

/-! ## The reference symbols (R505)

All of them are corners `j^t * (1 + j)` of one square. -/

/-- `j^t * (1 + j)`. -/
def corner (t : Fin 4) : Cplx := rotq ⟨f1, f1⟩ t

/-- The quarter turns of position `k`'s decision axis: of pi/2-BPSK, and of scrambling when `HDR_SCR` = 1. -/
def axisTurn (c : Cfg) (k : Nat) : Fin 4 :=
  (if k % 2 = 0 then 0 else 1) + (if hdrScr c = true then goldR c.goldCode.toNat k else 0)

/-- The half turn of a header bit. -/
def bitTurn (a : Bool) : Fin 4 := if a = true then 2 else 0

theorem refSymbol_eq_corner (c : Cfg) (a : Bool) (k : Nat) : refSymbol c a k = corner (axisTurn c k + bitTurn a) := by
  have points : ∀ (odd a : Bool) (q : Fin 4),
      rotq (if odd = false then ⟨bitSign a, bitSign a⟩ else ⟨fneg (bitSign a), bitSign a⟩) q =
        corner ((if odd = false then 0 else 1) + q + bitTurn a) := by decide
  have scrambled : refSymbol c a k = rotq (bpsk a k) (if hdrScr c = true then goldR c.goldCode.toNat k else 0) := by
    unfold refSymbol
    split <;> rfl
  have parity := points (decide (k % 2 ≠ 0)) a (if hdrScr c = true then goldR c.goldCode.toNat k else 0)
  simp only [decide_eq_false_iff_not, not_not] at parity
  rw [scrambled, bpsk, axisTurn, parity]

theorem href_eq_corner (c : Cfg) (p : BitVec 7) (k : Nat) :
    href c p k = corner (axisTurn c k + bitTurn (headerBit p k)) := refSymbol_eq_corner _ _ _

theorem axis_eq_corner (c : Cfg) (k : Nat) : axis c k = corner (axisTurn c k) :=
  (refSymbol_eq_corner c false k).trans (congrArg corner (add_zero _))

/-- The differential reference of R508 is the turn between two symbols. -/
theorem headerQ_eq (c : Cfg) (k : Nat) :
    headerQ c k = axisTurn c k + bitTurn (headerBit 0#7 k) - (axisTurn c (k - 1) + bitTurn (headerBit 0#7 (k - 1))) := by
  have turns : ∀ i j : Fin 4, quarterOf (cscale fHalf (cmul (corner i) (conj (corner j)))) = i - j := by decide +kernel
  rw [headerQ, href_eq_corner, href_eq_corner, turns]

theorem ceq_headerQ (c : Cfg) (k : Nat) :
    ceq (cscale fHalf (cmul (href c 0#7 k) (conj (href c 0#7 (k - 1))))) (rotq ⟨f1, f0⟩ (headerQ c k)) = true := by
  have turns : ∀ i j : Fin 4,
      ceq (cscale fHalf (cmul (corner i) (conj (corner j)))) (rotq ⟨f1, f0⟩ (i - j)) = true := by decide +kernel
  rw [headerQ_eq, href_eq_corner, href_eq_corner, turns]

/-! ## HDR_TEST and HDR_DECODE (R508 to R512) -/

theorem exec_hdrTest {s : State} (running : s.ctl.running = true) (unstaged : s.pls.outq = []) :
    exec .hdrTest s = .next (hdrTest s) := by
  simp [exec, execHdrTest, plsReady, running, unstaged]

theorem exec_hdrDecode {s : State} (running : s.ctl.running = true) (unstaged : s.pls.outq = []) :
    exec .hdrDecode s = .next (hdrDecode s) := by
  simp [exec, execHdrDecode, plsReady, running, unstaged]

theorem getLsbD_headerWord (c : Cfg) (w : List Cplx) {i : Nat} (h : i < 64) :
    (headerWord c w).getLsbD (63 - i) = headerABit c (headerFreq c w) (headerPhase c (headerFreq c w) w) w (26 + i) :=
  getLsbD_ofNat_bitsMsb _ h

/-- Settles O33: the symbols by their definitions, `q(k)` by `ceq_headerQ`, and the sums of R508 term by term. -/
theorem headerTestAndDecode : Obligations.HeaderTestAndDecode := by
  refine ⟨fun p k hk => ?sof, fun p m _ => headerBit_plsc p m, ?references, fun c k _ _ => ceq_headerQ c k, ?computed,
    fun c word => rfl, fun s running unstaged => ⟨exec_hdrTest running unstaged, exec_hdrDecode running unstaged⟩⟩
  case sof =>
    have bits : ∀ k < 26, sofBit k =
        ([0, 1, 1, 0, 0, 0, 1, 1, 0, 1, 0, 0, 1, 0, 1, 1, 1, 0, 1, 0, 0, 0, 0, 0, 1, 0].getD k 0 == 1) := by decide
    rw [headerBit_sof p hk, bits k hk]
  case references =>
    intro c p k hk q v b
    have sign (a : Bool) : bitSign a = v a := rfl
    have opposite (a : Bool) : fneg (bitSign a) = v (!a) := by cases a <;> decide
    have symbol (a : Bool) : refSymbol c a k = rotq (b a) q := by
      have points : bpsk a k = b a := by rw [bpsk, opposite, sign]
      simp only [refSymbol, points, hdrScr, q]
      split <;> rfl
    exact ⟨symbol _, symbol _⟩
  case computed =>
    intro c win w dlt cs m e d phi0 proj
    have sof : corrSof c win = cs := by rw [corrSof, sofPositions, List.map_map]; rfl
    have magnitude : corrM c win = m := by rw [corrM, sof, corrPlsc, plscPositions, List.map_map]; rfl
    have energy : corrE win = e := rfl
    have phase : headerPhase c (headerFreq c win) win = phi0 := by rw [headerPhase, headerFreq, sof]; rfl
    refine ⟨?_, ?_, fun i hi => ?_⟩
    · rw [headerHit, energy, magnitude]
    · rw [headerRatio, energy, magnitude]
    · rw [getLsbD_headerWord c win hi, phase, headerFreq, sof]
      rfl

/-! ## A noiseless header (R508, R509)

Every differential product is a real number times an exact power of `j` that `q(k)` takes off: 2 within the start of frame,
and 2 or -2, the same for all, in the pairs of the codeword. -/

/-- A product that is the real number `v`; the sign of its zero is open. -/
def IsReal (v : F32) (z : Cplx) : Prop := z.re = v ∧ (z.im = f0 ∨ z.im = fneg f0)

/-- 2.0 or -2.0. -/
def signedTwo (a : Bool) : F32 := if a = true then 0xC0000000#32 else 0x40000000#32

theorem dlt_noiseless {c : Cfg} {p : BitVec 7} {w : List Cplx} {k : Nat} (one : wAt w k = href c p k)
    (zero : wAt w (k - 1) = href c p (k - 1)) :
    IsReal (signedTwo (headerBit p k ^^ headerBit 0#7 k ^^ (headerBit p (k - 1) ^^ headerBit 0#7 (k - 1)))) (dlt c w k) := by
  have products : ∀ (i j : Fin 4) (a a' b b' : Bool),
      IsReal (signedTwo (a ^^ a' ^^ (b ^^ b'))) (rotq (cmul (corner (i + bitTurn a)) (conj (corner (j + bitTurn b))))
        (rotInv (i + bitTurn a' - (j + bitTurn b')))) := by
    unfold IsReal
    decide +kernel
  rw [dlt, diffRaw, one, zero, headerQ_eq, href_eq_corner, href_eq_corner]
  exact products _ _ _ _ _ _

/-- A sum of equal real products is real, with a zero of positive sign. -/
theorem foldl_cadd_real {v : F32} {l : List Cplx} (terms : ∀ z ∈ l, IsReal v z) (x : F32) :
    l.foldl cadd ⟨x, f0⟩ = ⟨(List.replicate l.length v).foldl fadd x, f0⟩ := by
  induction l generalizing x with
  | nil => rfl
  | cons z l ih =>
    obtain ⟨re, im⟩ := terms z List.mem_cons_self
    have zero : fadd f0 z.im = f0 := by
      obtain im | im := im <;> rw [im] <;> decide
    rw [List.foldl_cons, cadd, re, zero, ih (fun y hy => terms y (List.mem_cons_of_mem z hy)), List.length_cons,
      List.replicate_succ, List.foldl_cons]

theorem csum_real {v : F32} {l : List Cplx} (terms : ∀ z ∈ l, IsReal v z) :
    csum l = ⟨fsum (List.replicate l.length v), f0⟩ := foldl_cadd_real terms f0

section
variable {c : Cfg} {p : BitVec 7}

/-- A window that holds the header of `p`. -/
def headerOf (c : Cfg) (p : BitVec 7) : List Cplx := (List.range 90).map (href c p)

theorem wAt_headerOf {k : Nat} (h : k < 90) : wAt (headerOf c p) k = href c p k := by
  simp [wAt, headerOf, h]

theorem corrSof_headerOf : corrSof c (headerOf c p) = ⟨0x42480000#32, f0⟩ := by
  have terms : ∀ z ∈ sofPositions.map (dlt c (headerOf c p)), IsReal (signedTwo false) z := by
    intro z hz
    obtain ⟨k, hk, rfl⟩ := List.mem_map.mp hz
    obtain ⟨i, hi, rfl⟩ := List.mem_map.mp hk
    have hi := List.mem_range.mp hi
    have product := dlt_noiseless (c := c) (p := p) (wAt_headerOf (k := i + 1) (by omega)) (wAt_headerOf (by omega))
    rw [headerBit_sof p (by omega), headerBit_sof 0#7 (by omega), headerBit_sof p (by omega),
      headerBit_sof 0#7 (by omega), Bool.xor_self, Bool.xor_self] at product
    exact product
  have sum : fsum (List.replicate 25 (signedTwo false)) = 0x42480000#32 := by decide +kernel
  rw [corrSof, csum_real terms]
  exact congrArg (Cplx.mk · f0) sum

theorem cabs_corrPlsc_headerOf : cabs (corrPlsc c (headerOf c p)) = f64 := by
  have terms : ∀ z ∈ plscPositions.map (dlt c (headerOf c p)), IsReal (signedTwo (p.getLsbD 0)) z := by
    intro z hz
    obtain ⟨k, hk, rfl⟩ := List.mem_map.mp hz
    obtain ⟨i, hi, rfl⟩ := List.mem_map.mp hk
    have hi := List.mem_range.mp hi
    have product := dlt_noiseless (c := c) (p := p) (wAt_headerOf (k := 27 + 2 * i) (by omega)) (wAt_headerOf (by omega))
    rw [headerBit_pair p hi, show 27 + 2 * i - 1 = 26 + 2 * i by omega, Bool.xor_right_comm, Bool.xor_self,
      Bool.false_xor] at product
    exact product
  have sums : ∀ a : Bool, cabs ⟨fsum (List.replicate 32 (signedTwo a)), f0⟩ = f64 := by decide +kernel
  rw [corrPlsc, csum_real terms]
  exact sums _

/-- `M = E = 114` (R508): the 25 products of the start of frame and the 32 pairs, 2 each. -/
theorem corrM_headerOf : corrM c (headerOf c p) = 0x42E40000#32 := by
  rw [corrM, corrSof_headerOf, cabs_corrPlsc_headerOf]
  decide +kernel

theorem corrE_headerOf : corrE (headerOf c p) = 0x42E40000#32 := by
  have energy : ∀ i j : Fin 4, fmul fHalf (fadd (cnorm2 (corner i)) (cnorm2 (corner j))) = f2 := by decide +kernel
  have terms : (sofPositions ++ plscPositions).map (energyAt (headerOf c p)) = List.replicate 57 f2 := by
    refine List.eq_replicate_iff.mpr ⟨rfl, fun e he => ?_⟩
    obtain ⟨k, hk, rfl⟩ := List.mem_map.mp he
    have within : ∀ k ∈ sofPositions ++ plscPositions, k < 90 := by decide
    have hk := within k hk
    rw [energyAt, wAt_headerOf hk, wAt_headerOf (by omega), href_eq_corner, href_eq_corner, energy]
  rw [corrE, terms]
  decide +kernel

theorem headerRatio_headerOf : headerRatio c (headerOf c p) = f1 := by
  rw [headerRatio, corrE_headerOf, corrM_headerOf]
  decide +kernel

/-- A threshold below 1 leaves the energy's product below the energy after rounding (R221, R509). -/
theorem flt_fmul_energy {thr : F32} (fin : isfinite thr = true) (pos : flt f0 thr = true) (below : flt thr f1 = true) :
    flt (fmul thr 0x42E40000#32) 0x42E40000#32 = true := by
  obtain ⟨energy, prev, top⟩ : fval 0x42E40000#32 = 114 ∧ fval 0x42E3FFFF#32 = 114 - 1 / 2 ^ 17
      ∧ fval 0x3F7FFFFF#32 = 1 - 1 / 2 ^ 24 := by decide +kernel
  have nonneg : 0 ≤ fval thr := Numerics.fval_f0 ▸ (Numerics.fval_lt_of_flt pos).le
  have key : fkey thr < 0x3F800000 := Numerics.fval_lt_fval.mp (Numerics.fval_lt_of_flt below)
  have small : fval thr ≤ 1 - 1 / 2 ^ 24 := top ▸ Numerics.fval_le_fval.mpr (Int.le_of_lt_add_one key)
  have rounds := Numerics.fmul_roundsTo fin (show isfinite 0x42E40000#32 = true by decide)
  rw [energy] at rounds
  obtain ⟨finite, -, -⟩ := Numerics.roundsTo_between rounds (lo := f0) (hi := 0x42E40000#32) (by decide) (by decide)
    (by rw [Numerics.fval_f0]; exact_mod_cast (by positivity)) (by rw [energy]; exact_mod_cast (by linarith))
  refine Numerics.flt_of_fval_lt finite (by decide) ?_
  rw [energy]
  rcases le_total (fval thr * 114) (fval 0x42E3FFFF#32) with low | high
  · have bound := Numerics.roundsTo_le (c := 0x42E3FFFF#32) rounds finite (by decide) (by exact_mod_cast low)
    rw [prev] at bound
    linarith
  · have near : |fval (fmul thr 0x42E40000#32) - fval thr * 114| ≤ |fval 0x42E3FFFF#32 - fval thr * 114| := by
      exact_mod_cast rounds.nearest finite 0x42E3FFFF#32 (by decide)
    rw [abs_of_nonpos (sub_nonpos.mpr high), prev] at near
    linarith [le_abs_self (fval (fmul thr 0x42E40000#32) - fval thr * 114)]

theorem headerHit_headerOf (legal : cfgMask c = 0#17) : headerHit c (headerOf c p) = true := by
  have threshold : corrThreshOk c = true := FrontEnd.check_of_legal legal (k := 13) (by decide)
  simp only [corrThreshOk, Bool.and_eq_true] at threshold
  obtain ⟨⟨fin, pos⟩, below⟩ := threshold
  rw [headerHit, corrE_headerOf, corrM_headerOf, flt_fmul_energy fin pos below]
  decide +kernel

/-! ## The decode of a noiseless header (R510 to R512) -/

theorem headerFreq_headerOf : headerFreq c (headerOf c p) = f0 := by
  rw [headerFreq, corrSof_headerOf]
  decide +kernel

theorem cmul_corner_one (t : Fin 4) : cmul (corner t) ⟨f1, f0⟩ = corner t := by
  revert t
  decide +kernel

theorem derot_headerOf {k : Nat} (h : k < 90) : derot f0 (headerOf c p) k = href c p k := by
  have still : ∀ k : Nat, k < 90 → cisT (fneg (fmul f0 (fsub (i2f k) f12h))) = ⟨f1, f0⟩ := by decide +kernel
  rw [derot, still k h, wAt_headerOf h, href_eq_corner, cmul_corner_one]

theorem headerPhase_headerOf : headerPhase c f0 (headerOf c p) = f0 := by
  have square : ∀ t : Fin 4, IsReal f2 (cmul (corner t) (conj (corner t))) := by
    unfold IsReal
    decide +kernel
  have terms : ∀ z ∈ (List.range 26).map fun k => cmul (derot f0 (headerOf c p) k) (conj (href c 0#7 k)),
      IsReal f2 z := by
    intro z hz
    obtain ⟨k, hk, rfl⟩ := List.mem_map.mp hz
    have hk := List.mem_range.mp hk
    rw [derot_headerOf (by omega), href_eq_corner, href_eq_corner, headerBit_sof p hk, headerBit_sof 0#7 hk]
    exact square _
  have angle : argT ⟨fsum (List.replicate 26 f2), f0⟩ = f0 := by decide +kernel
  rw [headerPhase, csum_real terms]
  exact angle

theorem headerABit_headerOf {k : Nat} (h : k < 90) : headerABit c f0 f0 (headerOf c p) k = headerBit p k := by
  have still : cisT (fneg f0) = ⟨f1, f0⟩ := by decide +kernel
  have decision : ∀ (t : Fin 4) (a : Bool),
      flt (fadd (fmul (corner (t + bitTurn a)).re (corner t).re) (fmul (corner (t + bitTurn a)).im (corner t).im)) f0
        = a := by decide +kernel
  simp only [headerABit, still, derot_headerOf h, href_eq_corner, axis_eq_corner, cmul_corner_one, decision]

theorem headerWord_headerOf : headerWord c (headerOf c p) = plscCode p := by
  refine BitVec.eq_of_getLsbD_eq fun i hi => ?_
  obtain ⟨m, hm, rfl⟩ : ∃ m < 64, i = 63 - m := ⟨63 - i, by omega, by omega⟩
  rw [getLsbD_headerWord c _ hm, headerFreq_headerOf, headerPhase_headerOf, headerABit_headerOf (by omega), headerBit_plsc]

theorem decideWord_plscCode : decideWord c (plscCode p) = ⟨p, 0, supported p⟩ := by
  obtain ⟨nearest, distance⟩ := nearestPls_plscCode p
  simp [decideWord, nearest, distance]

end

/-- Settles O34: the test by `headerRatio_headerOf` and `headerHit_headerOf`, the decode by `headerWord_headerOf`. -/
theorem noiselessHeaderDecodes : Obligations.NoiselessHeaderDecodes := by
  intro s p running unstaged legal window
  have window : s.pls.w = headerOf s.act.cfg p := window
  have decoded : decideWord s.act.cfg (headerWord s.act.cfg s.pls.w) = ⟨p, 0, supported p⟩ := by
    rw [window, headerWord_headerOf, decideWord_plscCode]
  refine ⟨⟨_, exec_hdrTest running unstaged, ?_, ?_⟩, ⟨_, exec_hdrDecode running unstaged, ?_, ?_, ?_⟩⟩
  · rw [hdrTest_live, window, headerRatio_headerOf]
    rfl
  · rw [hdrTest_pls, window, headerHit_headerOf legal]
  · exact congrArg Dec.pls decoded
  · exact congrArg (BitVec.ofNat 7 ·.dist) decoded
  · rw [hdrDecode_pls]
    exact decoded

end Sys2Proof.Header

namespace Sys2Proof.Carrier

open Sys2Proof.Machine Sys2Proof.Laws

/-! ## Carrier recovery's operations, run alone (R110; notes/assumptions/10.md) -/

theorem cprReady_of_unstaged {s : State} (running : s.ctl.running = true) (unstaged : s.cpr.outq = []) :
    cprReady s = true := by
  simp [cprReady, running, unstaged]

section
variable {s : State} (running : s.ctl.running = true) (unstaged : s.cpr.outq = [])
include running unstaged

theorem exec_mix (z : Cplx) (pos : BitVec 16) : exec (.mix z pos) s = .next (mixSymbol z pos.toNat s) :=
  if_pos (cprReady_of_unstaged running unstaged)

theorem exec_freqUpdate : exec .freqUpdate s = .next (freqUpdate s) :=
  if_pos (cprReady_of_unstaged running unstaged)

theorem exec_phaseRef : exec .phaseRef s = .next (phaseRef s) :=
  if_pos (cprReady_of_unstaged running unstaged)

theorem exec_pilotSymbol (blk o : BitVec 8) (s1 : Cplx) :
    exec (.pilotSymbol blk o s1) s = .next (pilotSymbol blk.toNat o.toNat s1 s) :=
  if_pos (cprReady_of_unstaged running unstaged)

end

/-! ## MIX (R602, R603) -/

/-- MIX in one update: a pending estimate takes effect at position 0 only (R603), and the phase advances by the frequency
in effect. -/
theorem mixSymbol_eq {applies : Prop} [Decidable applies] {pos : Nat} {s : State}
    (iff : applies ↔ pos = 0 ∧ s.cpr.fPendV = true) (z : Cplx) :
    let f := if applies then s.cpr.fPend else s.cpr.fAct
    mixSymbol z pos s = { s with
      cpr := { s.cpr with
        fAct := f
        fPendV := if applies then false else s.cpr.fPendV
        s1 := cmul z (cisT (fneg s.cpr.psi))
        psi := wrapT (fadd s.cpr.psi f) }
      live := { s.live with
        freqEst := if applies then s.cpr.fPend else s.live.freqEst
        freqEstHz := if applies then fmul s.cpr.fPend s.act.cfg.symRate else s.live.freqEstHz } } := by
  dsimp only
  by_cases h : applies
  · simp only [mixSymbol, if_pos h, if_pos (iff.mp h), applyFreq]
  · simp only [mixSymbol, if_neg h, if_neg (mt iff.mpr h)]

/-- Settles O41, by `mixSymbol_eq`. -/
theorem mixResult : Obligations.MixResult := by
  intro s z pos running unstaged applies f
  have iff : applies ↔ pos.toNat = 0 ∧ s.cpr.fPendV = true := and_congr_left' (BitVec.toNat_inj (y := 0#16)).symm
  rw [exec_mix running unstaged, mixSymbol_eq iff]

/-- Settles O42: `exec_freqUpdate` and `exec_phaseRef` leave the two operations themselves. -/
theorem estimateAndPhaseReference : Obligations.EstimateAndPhaseReference :=
  ⟨fun _ running unstaged => exec_freqUpdate running unstaged,
    fun _ running unstaged => exec_phaseRef running unstaged⟩

/-! ## PILOT_SYMBOL (R630, R631, R635, R636) -/

theorem pilotAbsent_iff (s : State) :
    pilotAbsent s = true ↔ flt f0 s.cpr.pen = false
      ∨ flt (fdiv (cnorm2 s.cpr.pacc) (fmul f72 s.cpr.pen)) s.act.cfg.pilotThresh = true := by
  rw [pilotAbsent, Bool.or_eq_true, Bool.not_eq_true']

/-- Before its last symbol a block only accumulates; the last one decides whether the block is present. -/
theorem pilotSymbol_eq (blk o : Nat) (s1 : Cplx) (s : State) :
    let t := pilotAccumulate (pilotIndex blk o) s1 s
    pilotSymbol blk o s1 s =
      if o ≠ 35 then t
      else if flt f0 t.cpr.pen = false
          ∨ flt (fdiv (cnorm2 t.cpr.pacc) (fmul f72 t.cpr.pen)) t.act.cfg.pilotThresh = true then pilotFail t
      else pilotReference blk t := by
  dsimp only
  rw [pilotSymbol, ite_not]
  exact if_congr Iff.rfl (if_congr (pilotAbsent_iff _) rfl rfl) rfl

/-- PILOT_FAIL in one update (R636): the held symbols go, the frame is dropped and reported, and re-search requested. -/
theorem pilotFail_unstaged {s : State} (unstaged : s.cpr.outq = []) :
    pilotFail s = { s with
      cpr := { s.cpr with
        hold := []
        fr := { s.cpr.fr with drop := true }
        outq := [.abort s.cpr.fr.fid]
        failV := true
        failEpoch := s.cpr.fr.ep }
      pls := { s.pls with cforce := true, cforceEp := s.cpr.fr.ep }
      cnt := { s.cnt with pilotFailCnt := s.cnt.pilotFailCnt + 1#32 }
      ctl := { s.ctl with irqStatus := s.ctl.irqStatus ||| 0x080#10 } } := by
  simp only [pilotFail, unstaged, List.nil_append]
  rfl

/-- The end of a block that is present in one update (R630, R631): every held symbol is staged, oldest first, with its phase
between the two references. -/
theorem pilotReference_unstaged (blk : Nat) {s : State} (unstaged : s.cpr.outq = []) :
    let tb := pilotCentre blk
    let thb := argT s.cpr.pacc
    pilotReference blk s = { s with
      cpr := { s.cpr with
        pacc := czero
        pen := f0
        hold := []
        refT := tb
        refTh := thb
        outq := s.cpr.hold.map fun h =>
          forwardItem s.cpr.fr h.s1 h.pos h.didx (phaseAt (i2f h.pos) s.cpr.refT s.cpr.refTh tb thb) }
      live := { s.live with phaseLast := thb } } := by
  simp only [pilotReference, release, unstaged, List.nil_append]

/-- Settles O43: the three ends of `pilotSymbol_eq`, with the staging queue empty before them. -/
theorem pilotSymbolResult : Obligations.PilotSymbolResult := by
  intro s blk o s1 running unstaged i acc en absent tb thb phi
  have last : o.toNat ≠ 35 ↔ o ≠ 35#8 := not_congr (BitVec.toNat_inj (y := 35#8))
  have still : (pilotAccumulate (pilotIndex blk.toNat o.toNat) s1 s).cpr.outq = [] := unstaged
  rw [exec_pilotSymbol running unstaged, pilotSymbol_eq, pilotFail_unstaged still, pilotReference_unstaged _ still]
  exact congrArg Host.Outcome.next (if_congr last rfl (if_congr Iff.rfl rfl rfl))

end Sys2Proof.Carrier

namespace Sys2Proof.Carrier

open Sys2Proof.Machine Sys2Proof.Laws

/-! ## The CPR step (R110, R601) -/

/-- An enabled CPR step takes the oldest symbol. -/
theorem agentStep_cprStep_taken {s : State} {it : Item45} {rest : List Item45} (items : s.fifo.l45 = it :: rest)
    (running : s.ctl.running = true) (unstaged : s.cpr.outq = []) :
    agentStep .cprStep s = .next (cprProcess it { s with fifo := { s.fifo with l45 := rest } }) := by
  have ready : cprEnabled s = true := by simp [cprEnabled, cprReady, items, running, unstaged]
  rw [Groups.agentStep_cprStep, Groups.cprTurn, Sync.onOldest_taken items ready]

theorem continues_iff (it : Item45) (fr : FrameCtx) :
    continues it fr = true ↔ fr.valid = true ∧ it.fid = fr.fid ∧ it.pos = fr.next := by
  simp only [continues, Bool.and_eq_true, beq_iff_eq, and_assoc]

theorem cprProcess_start {it : Item45} (start : it.pos = 0) (s : State) : cprProcess it s = cprBody it (frameStart it s) :=
  if_pos start

theorem cprProcess_continuing {it : Item45} {s : State} (later : it.pos ≠ 0) (continuing : continues it s.cpr.fr = true) :
    cprProcess it s = cprBody it s := by
  rw [cprProcess, if_neg later, if_pos continuing]

theorem cprProcess_ignored {it : Item45} {s : State} (later : it.pos ≠ 0) (stray : ¬ continues it s.cpr.fr = true) :
    cprProcess it s = s := by
  rw [cprProcess, if_neg later, if_neg stray]

/-- `fr.next` moves past the symbol (R601). -/
def counted (it : Item45) (s : State) : State :=
  { s with cpr := { s.cpr with fr := { s.cpr.fr with next := it.pos + 1 } } }

/-- The state in which R601 tries the class of a position: the position is counted and the symbol mixed. -/
def mixedAt (it : Item45) (s : State) : State := mixSymbol it.z it.pos (counted it s)

/-- The mixer leaves the frame context. -/
theorem mixSymbol_fr (z : Cplx) (pos : Nat) (s : State) : (mixSymbol z pos s).cpr.fr = s.cpr.fr := by
  unfold mixSymbol
  split <;> rfl

theorem mixedAt_fr (it : Item45) (s : State) : (mixedAt it s).cpr.fr = { s.cpr.fr with next := it.pos + 1 } :=
  mixSymbol_fr it.z it.pos _

/-- Only the first symbol of a frame can change the frequency (R603). -/
theorem mixedAt_later {it : Item45} (later : it.pos ≠ 0) (s : State) :
    mixedAt it s = { s with cpr := { s.cpr with
      s1 := cmul it.z (cisT (fneg s.cpr.psi))
      psi := wrapT (fadd s.cpr.psi s.cpr.fAct)
      fr := { s.cpr.fr with next := it.pos + 1 } } } :=
  mixSymbol_eq (applies := False) (iff_of_false id fun ⟨start, _⟩ => later start) it.z

/-- At the first symbol of a frame a pending estimate takes effect (R603). -/
theorem mixedAt_start {it : Item45} (start : it.pos = 0) (s : State) :
    let f := if s.cpr.fPendV = true then s.cpr.fPend else s.cpr.fAct
    mixedAt it s = { s with
      cpr := { s.cpr with
        fAct := f
        fPendV := false
        s1 := cmul it.z (cisT (fneg s.cpr.psi))
        psi := wrapT (fadd s.cpr.psi f)
        fr := { s.cpr.fr with next := 1 } }
      live := { s.live with
        freqEst := if s.cpr.fPendV = true then s.cpr.fPend else s.live.freqEst
        freqEstHz := if s.cpr.fPendV = true then fmul s.cpr.fPend s.act.cfg.symRate else s.live.freqEstHz } } := by
  have taken : (if s.cpr.fPendV = true then false else s.cpr.fPendV) = false := by cases s.cpr.fPendV <;> rfl
  dsimp only
  rw [mixedAt, mixSymbol_eq (s := counted it s) (applies := s.cpr.fPendV = true)
    ⟨fun pending => ⟨start, pending⟩, And.right⟩]
  simp only [counted, taken, start]

theorem cprBody_dropped {it : Item45} {s : State} (dropped : s.cpr.fr.drop = true) : cprBody it s = mixedAt it s :=
  if_pos ((congrArg FrameCtx.drop (mixedAt_fr it s)).trans dropped)

theorem cprBody_kept {it : Item45} {s : State} (kept : s.cpr.fr.drop = false) :
    cprBody it s = closeFrame it (cprCase it (mixedAt it s)) :=
  if_neg (ne_true_of_eq_false ((congrArg FrameCtx.drop (mixedAt_fr it s)).trans kept))

/-- The last symbol of a frame ends its context (R601). -/
theorem closeFrame_eq {s : State} (valid : s.cpr.fr.valid = true) (it : Item45) :
    closeFrame it s =
      { s with cpr := { s.cpr with fr := { s.cpr.fr with valid := decide (it.pos + 1 ≠ s.cpr.fr.len) } } } := by
  by_cases last : it.pos + 1 = s.cpr.fr.len
  · simp only [closeFrame, last, if_true, ne_eq, not_true_eq_false, decide_false]
  · simp only [closeFrame, last, if_false, ne_eq, not_false_eq_true, decide_true, ← valid]

/-! The classes of R506. -/

theorem cprCase_header {it : Item45} {s : State} {k : Nat} (position : posClass s.cpr.fr.p it.pos = .header k) :
    cprCase it s = headerSymbol it.z s.cpr.s1 it.pos s := by
  rw [cprCase, position]

theorem cprCase_pilot {it : Item45} {s : State} {blk o : Nat} (position : posClass s.cpr.fr.p it.pos = .pilot blk o) :
    cprCase it s = pilotSymbol blk o s.cpr.s1 s := by
  rw [cprCase, position]

theorem cprCase_data {it : Item45} {s : State} {didx : Nat} (position : posClass s.cpr.fr.p it.pos = .data didx) :
    cprCase it s = dataSymbol didx it.pos s.cpr.s1 s := by
  rw [cprCase, position]

theorem posClass_header (n : Nat) {pos : Nat} (h : pos < 90) : posClass n pos = .header pos := if_pos h

/-- The state an enabled CPR step comes to with a later symbol of the current frame, before the class of its position: the symbol
is taken, counted and mixed. -/
def arrived (it : Item45) (rest : List Item45) (s : State) : State :=
  { s with
    fifo := { s.fifo with l45 := rest }
    cpr := { s.cpr with
      s1 := cmul it.z (cisT (fneg s.cpr.psi))
      psi := wrapT (fadd s.cpr.psi s.cpr.fAct)
      fr := { s.cpr.fr with next := it.pos + 1 } } }

/-- The CPR step on a later symbol of the current frame: only mixed when the frame is dropped, else the case of R601 on the
position's class. -/
theorem agentStep_cprStep_continuing {s : State} {it : Item45} {rest : List Item45} (items : s.fifo.l45 = it :: rest)
    (running : s.ctl.running = true) (unstaged : s.cpr.outq = []) (later : it.pos ≠ 0)
    (continuing : continues it s.cpr.fr = true) :
    agentStep .cprStep s = .next
      (if s.cpr.fr.drop = true then arrived it rest s else closeFrame it (cprCase it (arrived it rest s))) := by
  have body := cprProcess_continuing (s := { s with fifo := { s.fifo with l45 := rest } }) later continuing
  have mixed : mixedAt it { s with fifo := { s.fifo with l45 := rest } } = arrived it rest s := mixedAt_later later _
  rw [agentStep_cprStep_taken items running unstaged, body]
  split
  · next dropped => rw [cprBody_dropped (s := { s with fifo := { s.fifo with l45 := rest } }) dropped, mixed]
  · next kept =>
    rw [cprBody_kept (s := { s with fifo := { s.fifo with l45 := rest } }) (Bool.eq_false_of_not_eq_true kept), mixed]

/-! ## The first symbol of a frame (R610, R637) -/

/-- The report of a frame cut upstream in one update (R610). -/
theorem reportCut_eq (s : State) :
    reportCut s = { s with cpr := { s.cpr with
      outq := s.cpr.outq ++ if s.cpr.fr.valid = true ∧ s.cpr.fr.drop = false then [.abort s.cpr.fr.fid] else [] } } := by
  simp only [reportCut, Bool.and_eq_true, Bool.not_eq_true']
  split
  · rfl
  · simp only [List.append_nil]

/-- Whether the frame that starts is of the epoch that failed (R637). -/
def ofFailedEpoch (it : Item45) (s : State) : Bool := s.cpr.failV && decide (it.ep = s.cpr.failEpoch)

/-- FRAME_START in one update: a frame cut before it is reported, the context opened, and a frame of the failed epoch dropped and
reported. -/
theorem frameStart_eq (it : Item45) (s : State) :
    frameStart it s = { s with cpr := { s.cpr with
      hold := []
      fr := { newFrame it with drop := ofFailedEpoch it s }
      pacc := czero
      pen := f0
      refT := f0
      refTh := f0
      failV := ofFailedEpoch it s
      outq := s.cpr.outq ++ (if s.cpr.fr.valid = true ∧ s.cpr.fr.drop = false then [.abort s.cpr.fr.fid] else [])
        ++ if ofFailedEpoch it s = true then [.abort it.fid] else [] } } := by
  have test : ((openFrame it (reportCut s)).cpr.failV && it.ep == (openFrame it (reportCut s)).cpr.failEpoch)
      = ofFailedEpoch it s := by
    rw [reportCut_eq]
    rfl
  rw [frameStart, dropIfFailed, test, reportCut_eq]
  cases failed : ofFailedEpoch it s with
  | true =>
    have valid : s.cpr.failV = true := (Bool.and_eq_true_iff.mp failed).1
    simp only [if_true, emit56, openFrame, valid]
  | false =>
    simp only [Bool.false_eq_true, if_false, List.append_nil]
    rfl

/-- Before the last header symbol nothing is estimated (R615, R620). -/
theorem headerSymbol_earlier {pos : Nat} (earlier : pos ≠ 89) (z s1 : Cplx) (s : State) :
    headerSymbol z s1 pos s = storeHeader z s1 pos s := if_neg earlier

/-- The first symbol of a frame that is not dropped is stored: no frame is one symbol long (R520, R601, R615). -/
theorem cprBody_start {it : Item45} {s : State} (start : it.pos = 0) (kept : s.cpr.fr.drop = false)
    (length : s.cpr.fr.len = frameLen it.pls) :
    cprBody it s = storeHeader it.z (mixedAt it s).cpr.s1 it.pos (mixedAt it s) := by
  have long := Sync.header_le_frameLen it.pls
  have unfinished : it.pos + 1 ≠ (mixedAt it s).cpr.fr.len := by
    rw [mixedAt_fr]
    change it.pos + 1 ≠ s.cpr.fr.len
    omega
  rw [cprBody_kept kept, cprCase_header (posClass_header _ (by omega)), headerSymbol_earlier (by omega)]
  exact if_neg unfinished

/-- Settles O44: the first symbol by `frameStart_eq` and the two ends of MIX, the others by the guard of R601. -/
theorem frameStartAndDrop : Obligations.FrameStartAndDrop := by
  refine ⟨?first, ?dropped, ?stray⟩
  case dropped =>
    intro s it rest items running unstaged later valid dropped frame next
    rw [agentStep_cprStep_continuing items running unstaged later ((continues_iff _ _).mpr ⟨valid, frame, next⟩),
      if_pos dropped]
    rfl
  case stray =>
    intro s it rest items running unstaged later stray
    rw [agentStep_cprStep_taken items running unstaged]
    refine congrArg Host.Outcome.next (cprProcess_ignored later fun continuing => ?_)
    obtain ⟨valid, frame, next⟩ := (continues_iff it s.cpr.fr).mp continuing
    simp [valid, frame, next] at stray
  case first =>
    intro s it rest items running unstaged start failed f s1
    rw [agentStep_cprStep_taken items running unstaged, cprProcess_start start, frameStart_eq]
    have failed_eq : ofFailedEpoch it { s with fifo := { s.fifo with l45 := rest } } = failed := rfl
    simp only [failed_eq, unstaged, List.nil_append]
    cases failed with
    | true =>
      rw [cprBody_dropped rfl, mixedAt_start start]
      rfl
    | false =>
      rw [cprBody_start start rfl rfl, mixedAt_start start, start]
      rfl

/-! ## A later symbol of a frame (R601) -/

/-- The CPR step on a later symbol of a frame that is not dropped: the case of R601 on the class of its position, and the end of
the frame after its last symbol. -/
theorem agentStep_cprStep_kept {s t : State} {it : Item45} {rest : List Item45} (items : s.fifo.l45 = it :: rest)
    (running : s.ctl.running = true) (unstaged : s.cpr.outq = []) (later : it.pos ≠ 0) (kept : s.cpr.fr.drop = false)
    (continuing : s.cpr.fr.valid = true ∧ it.fid = s.cpr.fr.fid ∧ it.pos = s.cpr.fr.next)
    (handled : cprCase it (arrived it rest s) = t) (valid : t.cpr.fr.valid = s.cpr.fr.valid) :
    agentStep .cprStep s = .next
      { t with cpr := { t.cpr with fr := { t.cpr.fr with valid := decide (it.pos + 1 ≠ t.cpr.fr.len) } } } := by
  rw [agentStep_cprStep_continuing items running unstaged later ((continues_iff _ _).mpr continuing),
    if_neg (ne_true_of_eq_false kept), handled, closeFrame_eq (valid.trans continuing.1)]

/-- The estimator in one update: the differential is accumulated, and an estimate is made of it when the frame count reaches
`PL_FREQ_EST_PERIOD` (R615, R616). -/
theorem estimate_eq (s : State) :
    let acc := cadd s.cpr.dAcc (headerDiff s.act.cfg s.cpr.fr.pls s.cpr.hraw)
    let estimates := s.cpr.nEst + 1#16 = s.act.cfg.plFreqEstPeriod
    estimate s = { s with
      cpr := { s.cpr with
        dAcc := if estimates then czero else acc
        nEst := if estimates then 0#16 else s.cpr.nEst + 1#16
        fPend := if estimates then argT acc else s.cpr.fPend
        fPendV := if estimates then true else s.cpr.fPendV
        freqValid := if estimates then true else s.cpr.freqValid }
      ctl := { s.ctl with irqStatus := if estimates then s.ctl.irqStatus ||| 0x008#10 else s.ctl.irqStatus } } := by
  dsimp only
  by_cases h : s.cpr.nEst + 1#16 = s.act.cfg.plFreqEstPeriod
  · simp only [estimate, if_pos h]
    rfl
  · simp only [estimate, if_neg h]

theorem headerSymbol_last {pos : Nat} (last : pos = 89) (z s1 : Cplx) (s : State) :
    headerSymbol z s1 pos s = phaseRef (estimate (storeHeader z s1 pos s)) := if_pos last

/-- Settles O45: a header symbol is stored (`headerSymbol_earlier`), the last one then estimated from (`estimate_eq`). -/
theorem headerSymbolStep : Obligations.HeaderSymbolStep := by
  intro s it rest items running unstaged later header valid kept frame next c pls s1 raw der u acc estimates th mixed
  have step {t : State} := agentStep_cprStep_kept (t := t) items running unstaged later kept ⟨valid, frame, next⟩
  have handled : cprCase it (arrived it rest s) = headerSymbol it.z s1 it.pos (arrived it rest s) :=
    cprCase_header (posClass_header _ header)
  split
  · next earlier =>
    rw [headerSymbol_earlier earlier] at handled
    exact step handled rfl
  · next last =>
    rw [headerSymbol_last (not_not.mp last), estimate_eq] at handled
    exact step handled rfl

/-- Settles O46: the three ends of `pilotSymbol_eq` on the symbol's payload index. -/
theorem pilotSymbolStep : Obligations.PilotSymbolStep := by
  intro s it rest blk o items running unstaged later valid kept frame next position s1 acc en absent tb thb phi mixed
  have step {t : State} := agentStep_cprStep_kept (t := t) items running unstaged later kept ⟨valid, frame, next⟩
  have handled : cprCase it (arrived it rest s) = pilotSymbol blk o s1 (arrived it rest s) := cprCase_pilot position
  have index : it.pos - 90 = pilotIndex blk o := by
    obtain ⟨-, -, place⟩ := Frames.posClass_eq_pilot position
    rw [pilotIndex]
    omega
  have still : (pilotAccumulate (it.pos - 90) s1 (arrived it rest s)).cpr.outq = [] := unstaged
  rw [pilotSymbol_eq, ← index, pilotFail_unstaged still, pilotReference_unstaged _ still] at handled
  split
  · next inside => exact step (handled.trans (if_pos inside)) rfl
  · next last =>
    have ended := handled.trans (if_neg last)
    split
    · next gone => exact step (ended.trans (if_pos gone)) rfl
    · next present => exact step (ended.trans (if_neg present)) rfl

/-- Settles O47: the two ends of DATA_SYMBOL. -/
theorem dataSymbolHeldOrForwarded : Obligations.DataSymbolHeldOrForwarded := by
  intro s it rest didx items running unstaged later valid kept frame next position s1 held
  have step {t : State} := agentStep_cprStep_kept (t := t) items running unstaged later kept ⟨valid, frame, next⟩
  have handled : cprCase it (arrived it rest s) = dataSymbol didx it.pos s1 (arrived it rest s) := cprCase_data position
  rw [dataSymbol] at handled
  by_cases waits : held
  · rw [step (handled.trans (if_pos waits)) rfl]
    simp only [if_pos waits, arrived, unstaged]
    rfl
  · rw [step (handled.trans (if_neg waits)) rfl]
    simp only [if_neg waits, emit56, arrived, unstaged, List.nil_append]
    rfl

end Sys2Proof.Carrier

namespace Sys2Proof.Carrier

open Sys2Proof.Machine Sys2Proof.Laws Sys2Proof.Steps

/-! ## Everything a step can do to carrier recovery (R110) -/

/-- The next states of an agent's step, by what it does to carrier recovery: nothing, a reset, a drain step, or an operation of
carrier recovery itself, which finds the staging queue empty. -/
inductive CarrierEffect (s : State) : State → Prop where
  | kept {t : State} (same : t.cpr = s.cpr) : CarrierEffect s t
  | reset {t : State} (cleared : t.cpr = cprReset) : CarrierEffect s t
  | drained {t : State} (it : Item56) (rest : List Item56) (queue : s.cpr.outq = it :: rest)
    (same : t.cpr = { s.cpr with outq := rest }) : CarrierEffect s t
  | cprStep (it : Item45) (rest : List Item45) (unstaged : s.cpr.outq = []) :
    CarrierEffect s (cprProcess it { s with fifo := { s.fifo with l45 := rest } })
  | freqUpdate (unstaged : s.cpr.outq = []) : CarrierEffect s (freqUpdate s)
  | mix (z : Cplx) (pos : Nat) (unstaged : s.cpr.outq = []) : CarrierEffect s (mixSymbol z pos s)
  | phaseRef (unstaged : s.cpr.outq = []) : CarrierEffect s (phaseRef s)
  | pilotSymbol (blk o : Nat) (s1 : Cplx) (unstaged : s.cpr.outq = []) : CarrierEffect s (pilotSymbol blk o s1 s)

/-! The other units leave carrier recovery. -/

theorem raiseNumIf_cpr (b : Bool) (u : NumUnit) (s : State) : (raiseNumIf b u s).cpr = s.cpr := by
  cases b <;> rfl

theorem strLoop_cpr (y : List Cplx) (smp : Idx) (k : Nat) (s : State) : (strLoop y smp k s).cpr = s.cpr :=
  strLoop_induction (P := fun t => t.cpr = s.cpr) y smp (fun _ h => h) (fun _ h => (raiseNumIf_cpr _ .str _).trans h) k s rfl

@[simp] theorem leaveLock_cpr (s : State) : (leaveLock s).cpr = s.cpr := by
  unfold leaveLock
  split <;> rfl

@[simp] theorem hostForce_cpr (s : State) : (hostForce s).cpr = s.cpr := by
  unfold hostForce
  split
  · exact leaveLock_cpr _
  · rfl

@[simp] theorem carrierForce_cpr (s : State) : (carrierForce s).cpr = s.cpr := by
  unfold carrierForce
  split
  · split
    · exact leaveLock_cpr _
    · rfl
  · rfl

@[simp] theorem startFrame_cpr (p : BitVec 7) (s : State) : (startFrame p s).cpr = s.cpr := by
  rw [Sync.startFrame_update]

@[simp] theorem emitHeader_cpr (w : List Cplx) (ws : List Idx) (s : State) : (emitHeader w ws s).cpr = s.cpr := by
  rw [emitHeader_eq]

@[simp] theorem searchStep_cpr (idx : Idx) (s : State) : (searchStep idx s).cpr = s.cpr := by
  unfold searchStep
  dsimp only
  split
  · split <;> rfl
  · rfl

@[simp] theorem enterLock_cpr (d : Pend) (s : State) : (enterLock d s).cpr = s.cpr := startFrame_cpr _ _

theorem confirmStep_cpr (y : Cplx) (smp idx : Idx) (s : State) : (confirmStep y smp idx s).cpr = s.cpr := by
  cases pend : s.pls.pend with
  | none => simp only [confirmStep, pend, searchStep_cpr]
  | some d =>
    cases accepted : d.dec.ok with
    | false => rw [Sync.confirmStep_rejected pend accepted, searchStep_cpr]
    | true =>
      rw [Sync.confirmStep_accepted pend accepted, clearPend_cpr]
      split
      · rw [emit_cpr, emitHeader_cpr, enterLock_cpr]
      · exact enterLock_cpr d s

@[simp] theorem acceptHeader_cpr (p : BitVec 7) (idx : Idx) (s : State) : (acceptHeader p idx s).cpr = s.cpr := by
  unfold acceptHeader
  dsimp only
  split
  · rw [emitHeader_cpr, startFrame_cpr, lastHdr_cpr]
  · rw [startFrame_cpr, lastHdr_cpr]

@[simp] theorem failHeader_cpr (p : BitVec 7) (s : State) : (failHeader p s).cpr = s.cpr := by
  unfold failHeader
  dsimp only
  split <;> rfl

theorem check_cpr (idx : Idx) (s : State) : (check idx s).cpr = s.cpr := by
  have checked : (checkHeader s).cpr = s.cpr := rfl
  unfold check
  dsimp only
  split
  · rw [enterSearch_cpr, checked]
  · split
    · rw [acceptHeader_cpr, trackFrame_cpr, checked]
    · rw [failHeader_cpr, trackFrame_cpr, checked]

theorem trackStep_cpr (y : Cplx) (smp idx : Idx) (s : State) : (trackStep y smp idx s).cpr = s.cpr := by
  unfold trackStep
  dsimp only
  split
  · split <;> rfl
  · split
    · exact check_cpr idx _
    · rfl

theorem plsProcess_cpr (it : Item34) (s : State) : (plsProcess it s).cpr = s.cpr := by
  have forced : (forceCheck s).cpr = s.cpr := (carrierForce_cpr _).trans (hostForce_cpr s)
  unfold plsProcess plsCase
  dsimp only
  split
  · exact (searchStep_cpr _ _).trans forced
  · exact (confirmStep_cpr _ _ _ _).trans forced
  · exact (trackStep_cpr _ _ _ _).trans forced

theorem dscProcess_cpr (it : Item56) (s : State) : (dscProcess it s).cpr = s.cpr := by cases it <;> rfl

theorem csrReadEffect_cpr (r : Csr) (s : State) : (csrReadEffect s r).cpr = s.cpr := by cases r <;> rfl

theorem csrWriteEffect_cpr (r : Csr) (w : BitVec 32) (s : State) : (csrWriteEffect s r w).cpr = s.cpr := by
  unfold csrWriteEffect
  split <;> rfl

theorem drainStep_carrier (g : Group) (s : State) : CarrierEffect s (drainStep g s) := by
  cases g with
  | cpr =>
    simp only [drainStep, drainCpr]
    split
    · exact .kept rfl
    · next it rest queue =>
      split
      · exact .drained it rest queue rfl
      · exact .kept rfl
  | agc | mf | str | pls | dsc =>
    simp only [drainStep, drainAgc, drainMf, drainStr, drainPls, drainDsc]
    repeat' split
    all_goals exact .kept rfl

/-- An admitted COMMIT resets carrier recovery or leaves it (R221, R902). -/
theorem commitEffect_carrier (s : State) : CarrierEffect s (answerOkay (commitEffect s)) := by
  unfold commitEffect
  split
  · exact .reset rfl
  · exact .kept rfl

/-- An operation of carrier recovery runs with an empty staging queue, or not at all (R110). -/
theorem carrierEffect_of_guard {s t u : State} (run : s.cpr.outq = [] → CarrierEffect s u)
    (h : (if cprReady s = true then Host.Outcome.next (φ := Fault) (ρ := Refusal) u else .next s) = .next t) :
    CarrierEffect s t := by
  split at h <;> cases h
  · next ready =>
    simp only [cprReady, Bool.and_eq_true, List.isEmpty_iff] at ready
    exact run ready.2
  · exact .kept rfl

/-- What an operation does to carrier recovery. -/
theorem exec_carrier {s t : State} {i : Instr} (h : exec i s = .next t)
    (notCmd : ∀ off size w, i = .csrWrite off size w → isCommandWrite off size = false) : CarrierEffect s t := by
  cases i with
  | freqUpdate => exact carrierEffect_of_guard .freqUpdate h
  | phaseRef => exact carrierEffect_of_guard .phaseRef h
  | mix z pos => exact carrierEffect_of_guard (.mix z pos.toNat) h
  | pilotSymbol blk o s1 => exact carrierEffect_of_guard (.pilotSymbol blk.toNat o.toNat s1) h
  | softReset => cases h; exact .reset rfl
  | nop | stop | forceSearch | clearCounters => cases h; exact .kept rfl
  | commit =>
    cases h
    unfold cmdCommit
    split
    · exact .kept rfl
    · exact commitEffect_carrier s
  | start =>
    simp only [exec, execStart, cmdStart] at h
    split at h <;> cases h <;> exact .kept rfl
  | reserved w =>
    simp only [exec, execReserved, cmdReserved] at h
    repeat' split at h
    all_goals cases h; exact .kept rfl
  | csrRead off size =>
    simp only [exec, execCsrRead] at h
    split at h <;> cases h
    · exact .kept rfl
    · next r _ => exact .kept (csrReadEffect_cpr r s)
  | csrWrite off size w =>
    simp only [exec, execCsrWrite] at h
    split at h
    · cases h; exact .kept rfl
    · next reached =>
      obtain ⟨rfl, rfl⟩ := admitted_eq_some reached
      exact absurd (notCmd _ _ w rfl) (by decide)
    · next r _ _ => cases h; exact .kept (csrWriteEffect_cpr r w s)
  | inBeat i q =>
    simp only [exec, execInBeat] at h
    split at h <;> cases h <;> exact .kept rfl
  | outBeat =>
    simp only [exec, execOutBeat] at h
    split at h <;> cases h <;> exact .kept rfl
  | hdrTest | hdrDecode =>
    simp only [exec, execHdrTest, execHdrDecode] at h
    split at h <;> cases h <;> exact .kept rfl
  | agcStep =>
    obtain ⟨x, rest, -, -, -, taken⟩ | idle := execAgcStep_cases s
    · cases taken.symm.trans h; exact .kept (raiseNumIf_cpr _ .agc _)
    · cases idle.symm.trans h; exact .kept rfl
  | mfStep =>
    obtain ⟨it, rest, -, -, -, taken⟩ | idle := execMfStep_cases s
    · cases taken.symm.trans h; exact .kept (raiseNumIf_cpr _ .mf _)
    · cases idle.symm.trans h; exact .kept rfl
  | strStep =>
    obtain ⟨it, rest, -, -, -, taken⟩ | idle := execStrStep_cases s
    · cases taken.symm.trans h; exact .kept (strLoop_cpr it.y it.smp 3 _)
    · cases idle.symm.trans h; exact .kept rfl
  | plsStep =>
    obtain ⟨it, rest, -, -, -, taken⟩ | idle := execPlsStep_cases s
    · cases taken.symm.trans h; exact .kept (plsProcess_cpr it _)
    · cases idle.symm.trans h; exact .kept rfl
  | dscStep =>
    obtain ⟨it, rest, -, -, -, taken⟩ | idle := execDscStep_cases s
    · cases taken.symm.trans h; exact .kept (dscProcess_cpr it _)
    · cases idle.symm.trans h; exact .kept rfl

/-- Everything an agent's step can do to carrier recovery. -/
theorem agentStep_carrier {a : Action} {s t : State} (h : agentStep a s = .next t) : CarrierEffect s t := by
  cases a with
  | powerOn => cases h; exact .reset rfl
  | drain g => cases h; exact drainStep_carrier g s
  | cprStep =>
    cases h
    obtain ⟨it, rest, -, -, unstaged, taken⟩ | idle := cprStep_cases s
    · rw [taken]; exact .cprStep it rest unstaged
    · rw [idle]; exact .kept rfl
  | present p =>
    cases decoded : decode p with
    | error why => simp [agentStep, decoded] at h
    | ok i =>
      rw [agentStep_present decoded] at h
      refine exec_carrier h ?_
      rintro off size w rfl
      exact decode_csrWrite decoded

/-! ## What the invariant reads (R66, R110, R621) -/

/-- The items of `CprInv`. -/
def carrierView (s : State) : State :=
  { State.reset with
    cpr := { cprReset with fr := s.cpr.fr, hraw := s.cpr.hraw, hder := s.cpr.hder, hold := s.cpr.hold, outq := s.cpr.outq } }

theorem cprInv_view (s : State) : CprInv (carrierView s) ↔ CprInv s :=
  ⟨fun h => { h with }, fun h => { h with }⟩

theorem cprInv_congr {s t : State} (h : CprInv s) (same : carrierView t = carrierView s) : CprInv t := by
  rw [← cprInv_view, same, cprInv_view]
  exact h

theorem cprInv_of_cpr {s t : State} (h : CprInv s) (same : t.cpr = s.cpr) : CprInv t :=
  cprInv_congr h (by rw [carrierView, carrierView, same])

theorem carrierView_mixSymbol (z : Cplx) (pos : Nat) (s : State) : carrierView (mixSymbol z pos s) = carrierView s := by
  unfold mixSymbol
  split <;> rfl

theorem carrierView_estimate (s : State) : carrierView (estimate s) = carrierView s := by
  rw [estimate_eq]
  rfl

/-- The buffers of a reset are empty (R902). -/
theorem cprInv_reset {t : State} (cleared : t.cpr = cprReset) : CprInv t := by
  constructor <;> simp [cleared, cprReset, frEmpty]

/-- With nothing held, only the header copies and the staging queue are bounded. -/
theorem cprInv_of_empty {s : State} (raw : s.cpr.hraw.length = 90) (derotated : s.cpr.hder.length = 90)
    (staged : s.cpr.outq.length ≤ Config.segBuf + 1) (empty : s.cpr.hold = []) : CprInv s where
  raw := raw
  derotated := derotated
  held := by simp [empty]
  staged := staged
  dropped := fun _ => empty
  position := fun _ => by simp [empty]

/-! ## The operations -/

/-- The header copies keep their length (R615). -/
theorem storeHeader_inv (z s1 : Cplx) (pos : Nat) {s : State} (h : CprInv s) : CprInv (storeHeader z s1 pos s) :=
  { h with
    raw := by simp [h.raw]
    derotated := by simp [h.derotated] }

theorem headerSymbol_inv (z s1 : Cplx) (pos : Nat) {s : State} (h : CprInv s) : CprInv (headerSymbol z s1 pos s) := by
  have stored := storeHeader_inv z s1 pos h
  by_cases last : pos = 89
  · rw [headerSymbol_last last]
    exact cprInv_congr (cprInv_congr stored (carrierView_estimate _)) rfl
  · rw [headerSymbol_earlier last]
    exact stored

/-- The sizes an operation of carrier recovery starts from: it finds nothing staged. -/
structure Sized (s : State) : Prop where
  raw : s.cpr.hraw.length = 90
  derotated : s.cpr.hder.length = 90
  held : s.cpr.hold.length ≤ Config.segBuf
  unstaged : s.cpr.outq = []

theorem sized_of_inv {s : State} (h : CprInv s) (unstaged : s.cpr.outq = []) : Sized s :=
  { h with unstaged := unstaged }

theorem pilotFail_inv {s : State} (h : Sized s) : CprInv (pilotFail s) := by
  rw [pilotFail_unstaged h.unstaged]
  exact cprInv_of_empty h.raw h.derotated (by simp) rfl

/-- A reference stages what was held, at most `SEG_BUF` symbols (R631). -/
theorem pilotReference_inv (blk : Nat) {s : State} (h : Sized s) : CprInv (pilotReference blk s) := by
  rw [pilotReference_unstaged blk h.unstaged]
  refine cprInv_of_empty h.raw h.derotated ?_ rfl
  simpa using Nat.le_succ_of_le h.held

/-- The last symbol of a block leaves nothing held, whether the block is present or not. -/
theorem pilotSymbol_inv (blk : Nat) {o : Nat} (s1 : Cplx) {s : State} (h : Sized s) (inside : o ≠ 35 → CprInv s) :
    CprInv (pilotSymbol blk o s1 s) := by
  have accumulated : Sized (pilotAccumulate (pilotIndex blk o) s1 s) := { h with }
  rw [pilotSymbol_eq]
  split
  · next notLast => exact cprInv_congr (inside notLast) rfl
  · split
    · exact pilotFail_inv accumulated
    · exact pilotReference_inv blk accumulated

theorem closeFrame_inv (it : Item45) {s : State} (h : CprInv s) : CprInv (closeFrame it s) := by
  unfold closeFrame
  split
  · exact { h with position := nofun }
  · exact h

/-! ## The bound on the held symbols (R621) -/

theorem holdBound_header (p : Nat) {pos : Nat} (header : pos < 90) : holdBound p pos = 0 := by
  simp only [holdBound, Config.segBuf]
  split <;> omega

theorem holdBound_le (p pos : Nat) : holdBound p pos ≤ Config.segBuf := by
  unfold holdBound
  split <;> omega

/-- Within a pilot block the bound does not fall. -/
theorem holdBound_pilot {p pos blk o : Nat} (position : posClass p pos = .pilot blk o) (inside : o ≠ 35) :
    holdBound p pos ≤ holdBound p (pos + 1) := by
  obtain ⟨block, offset, place⟩ := Frames.posClass_eq_pilot position
  simp only [holdBound, Config.segBuf]
  split_ifs <;> omega

/-- A data symbol before a pilot block finds room. -/
theorem holdBound_data {p pos didx : Nat} (position : posClass p pos = .data didx) (waits : (pos - 90) / 1476 < p) :
    holdBound p pos + 1 ≤ holdBound p (pos + 1) := by
  have place := (Frames.posClass_eq_data_iff p pos didx).mp position
  simp only [holdBound, Config.segBuf]
  split_ifs <;> omega

theorem holdBound_after (p : Nat) {pos : Nat} (last : ¬ (pos - 90) / 1476 < p) : holdBound p pos = 0 := if_neg last

/-! ## The CPR step (R601) -/

/-- The state in which R601 tries the class of a position of a frame that is not dropped: the position is counted already, and
what is held is within the bound of before. -/
structure Arriving (it : Item45) (s : State) : Prop extends Sized s where
  kept : s.cpr.fr.drop = false
  next : s.cpr.fr.next = it.pos + 1
  bound : s.cpr.hold.length ≤ holdBound s.cpr.fr.p it.pos

theorem Arriving.inv {it : Item45} {s : State} (h : Arriving it s)
    (room : s.cpr.hold.length ≤ holdBound s.cpr.fr.p (it.pos + 1)) : CprInv s where
  raw := h.raw
  derotated := h.derotated
  held := h.held
  staged := by simp [h.unstaged]
  dropped := fun gone => absurd gone (ne_true_of_eq_false h.kept)
  position := fun _ => by rwa [h.next]

/-- A data symbol is held only where the bound leaves room for it (R621). -/
theorem dataSymbol_inv {it : Item45} {s : State} {didx : Nat} (s1 : Cplx) (h : Arriving it s)
    (position : posClass s.cpr.fr.p it.pos = .data didx) : CprInv (dataSymbol didx it.pos s1 s) := by
  unfold dataSymbol
  split
  · next waits =>
    have room : s.cpr.hold.length + 1 ≤ holdBound s.cpr.fr.p (it.pos + 1) :=
      le_trans (Nat.succ_le_succ h.bound) (holdBound_data position waits)
    have inv := h.inv (Nat.le_of_succ_le room)
    exact
      { inv with
        held := by simpa using room.trans (holdBound_le _ _)
        dropped := fun gone => absurd gone (ne_true_of_eq_false h.kept)
        position := fun _ => by simpa [h.next] using room }
  · next last =>
    have empty : s.cpr.hold = [] := by simpa [holdBound_after _ last] using h.bound
    exact cprInv_of_empty h.raw h.derotated (by simp [h.unstaged]) empty

theorem cprCase_inv {it : Item45} {s : State} (h : Arriving it s) : CprInv (cprCase it s) := by
  cases position : posClass s.cpr.fr.p it.pos with
  | header k =>
    obtain ⟨rfl, header⟩ := Frames.posClass_eq_header position
    have empty : s.cpr.hold.length = 0 := by simpa [holdBound_header _ header] using h.bound
    rw [cprCase_header position]
    exact headerSymbol_inv _ _ _ (h.inv (empty ▸ Nat.zero_le _))
  | pilot blk o =>
    rw [cprCase_pilot position]
    exact pilotSymbol_inv blk _ h.toSized fun inside => h.inv (h.bound.trans (holdBound_pilot position inside))
  | data didx =>
    rw [cprCase_data position]
    exact dataSymbol_inv _ h position

theorem carrierView_mixedAt (it : Item45) (s : State) : carrierView (mixedAt it s) = carrierView (counted it s) :=
  carrierView_mixSymbol it.z it.pos _

/-- With nothing held the position does not matter. -/
theorem mixedAt_inv (it : Item45) {s : State} (h : CprInv s) (empty : s.cpr.hold = []) : CprInv (mixedAt it s) :=
  cprInv_congr (s := counted it s) (cprInv_of_empty h.raw h.derotated h.staged empty) (carrierView_mixedAt it s)

theorem mixedAt_arriving {it : Item45} {s : State} (h : CprInv s) (unstaged : s.cpr.outq = []) (kept : s.cpr.fr.drop = false)
    (valid : s.cpr.fr.valid = true) (next : it.pos = s.cpr.fr.next) : Arriving it (mixedAt it s) := by
  have bound := h.position valid
  rw [← next] at bound
  rw [mixedAt, mixSymbol_eq Iff.rfl]
  exact { h with unstaged := unstaged, kept := kept, next := rfl, bound := bound }

/-- FRAME_START clears the held symbols and stages two reports at most (R610). -/
theorem frameStart_inv (it : Item45) {s : State} (h : Sized s) : CprInv (frameStart it s) ∧ (frameStart it s).cpr.hold = [] := by
  rw [frameStart_eq]
  refine ⟨cprInv_of_empty h.raw h.derotated ?_ rfl, rfl⟩
  simp only [h.unstaged, List.nil_append, List.length_append]
  split_ifs <;> simp [Config.segBuf]

theorem cprProcess_inv (it : Item45) {s : State} (h : CprInv s) (unstaged : s.cpr.outq = []) : CprInv (cprProcess it s) := by
  by_cases start : it.pos = 0
  · obtain ⟨started, empty⟩ := frameStart_inv it (sized_of_inv h unstaged)
    have mixed := mixedAt_inv it started empty
    rw [cprProcess_start start]
    cases dropped : (frameStart it s).cpr.fr.drop with
    | true => rw [cprBody_dropped dropped]; exact mixed
    | false =>
      have length : (frameStart it s).cpr.fr.len = frameLen it.pls := by rw [frameStart_eq]; rfl
      rw [cprBody_start start dropped length]
      exact storeHeader_inv _ _ _ mixed
  · by_cases continuing : continues it s.cpr.fr = true
    · obtain ⟨valid, -, next⟩ := (continues_iff it s.cpr.fr).mp continuing
      rw [cprProcess_continuing start continuing]
      cases dropped : s.cpr.fr.drop with
      | true => rw [cprBody_dropped dropped]; exact mixedAt_inv it h (h.dropped dropped)
      | false =>
        rw [cprBody_kept dropped]
        exact closeFrame_inv it (cprCase_inv (mixedAt_arriving h unstaged dropped valid next))
    · rw [cprProcess_ignored start continuing]
      exact h

/-! ## Every step -/

theorem CarrierEffect.inv {s t : State} (effect : CarrierEffect s t) (h : CprInv s) : CprInv t := by
  cases effect with
  | kept same => exact cprInv_of_cpr h same
  | reset cleared => exact cprInv_reset cleared
  | drained it rest queue same =>
    have shorter : CprInv { s with cpr := { s.cpr with outq := rest } } :=
      { h with staged := rest_length_le h.staged queue }
    exact cprInv_of_cpr shorter same
  | cprStep it rest unstaged =>
    have taken : CprInv { s with fifo := { s.fifo with l45 := rest } } := cprInv_of_cpr h rfl
    exact cprProcess_inv it taken unstaged
  | mix z pos _ => exact cprInv_congr h (carrierView_mixSymbol z pos s)
  | pilotSymbol blk o s1 unstaged => exact pilotSymbol_inv blk s1 (sized_of_inv h unstaged) fun _ => h
  | freqUpdate | phaseRef => exact cprInv_congr h rfl

/-- Settles O59, by the inversion of a step (`agentStep_carrier`); the work is the CPR step's, `cprProcess_inv`. -/
theorem stepKeepsCarrierBounds : Obligations.StepKeepsCarrierBounds := by
  intro s t h next
  obtain rfl | ⟨a, rest, -, next⟩ := step_cases next
  · exact h
  · have unscheduled : CprInv { s with agenda := rest } := cprInv_of_cpr h rfl
    exact (agentStep_carrier next).inv unscheduled

end Sys2Proof.Carrier

namespace Sys2Proof.Gold

open Sys2Proof.Machine

/-! ## Polynomials over GF(2) modulo `X^18 + p` (R700) -/

/-- Multiplication by `X` is linear. -/
theorem mulX_xor (p a b : BitVec 18) : mulX p (a ^^^ b) = mulX p a ^^^ mulX p b := by
  simp only [mulX, BitVec.getLsbD_xor, BitVec.shiftLeft_xor_distrib]
  cases a.getLsbD 17 <;> cases b.getLsbD 17
  · rfl
  · exact BitVec.xor_assoc _ _ _
  · simp only [Bool.xor_false, if_true, Bool.false_eq_true, if_false]
    rw [BitVec.xor_assoc, BitVec.xor_assoc, BitVec.xor_comm p]
  · have cancel (u v : BitVec 18) : (u ^^^ p) ^^^ (v ^^^ p) = u ^^^ v := by
      rw [BitVec.xor_comm v, BitVec.xor_assoc, ← BitVec.xor_assoc p, BitVec.xor_self, BitVec.zero_xor]
    exact (cancel _ _).symm

/-- Below the top degree, multiplication by `X` is a shift. -/
theorem mulX_of_top_zero (p : BitVec 18) {a : BitVec 18} (top : a.getLsbD 17 = false) : mulX p a = a <<< 1 :=
  if_neg (ne_true_of_eq_false top)

theorem mulModFrom_mulX (p a b : BitVec 18) (k : Nat) (acc : BitVec 18) :
    mulModFrom p (mulX p a) b k (mulX p acc) = mulX p (mulModFrom p a b k acc) := by
  induction k generalizing acc with
  | zero => rfl
  | succ k ih =>
    rw [mulModFrom, mulModFrom, ← ih]
    split
    · rw [mulX_xor]
    · rfl

/-- `(X * a) * b = X * (a * b)`. -/
theorem mulMod_mulX (p a b : BitVec 18) : mulMod p (mulX p a) b = mulX p (mulMod p a b) := by
  have zero : mulX p 0#18 = 0#18 := rfl
  rw [mulMod, mulMod, ← mulModFrom_mulX, zero]

/-- The coefficients of `b` from `k` on are those from `k + 1` on, shifted, and coefficient `k`. -/
theorem ushiftRight_eq_shift_succ (b : BitVec 18) (k : Nat) :
    b >>> k = if b.getLsbD k = true then b >>> (k + 1) <<< 1 ^^^ 1#18 else b >>> (k + 1) <<< 1 := by
  refine BitVec.eq_of_getLsbD_eq fun j hj => ?_
  cases j with
  | zero => split <;> simp [*]
  | succ j =>
    have inside : 1 + j < 18 := by omega
    split <;> simp [inside, Nat.add_comm j 1, ← Nat.add_assoc]

/-- Horner's rule reads `b` back: what has been read is `b` without its `k` low coefficients. -/
theorem mulModFrom_one (p b : BitVec 18) (k : Nat) : mulModFrom p 1#18 b k (b >>> k) = b := by
  induction k with
  | zero => simp [mulModFrom]
  | succ k ih =>
    have shifted : mulX p (b >>> (k + 1)) = b >>> (k + 1) <<< 1 := mulX_of_top_zero p (by simp)
    rw [mulModFrom, shifted, ← ushiftRight_eq_shift_succ, ih]

theorem one_mulMod (p b : BitVec 18) : mulMod p 1#18 b = b := by
  have start : b >>> 18 = 0#18 := BitVec.ushiftRight_eq_zero le_rfl
  rw [mulMod, ← start, mulModFrom_one]

/-! ## Powers of `X` -/

/-- `X^m` modulo `X^18 + p`. -/
def xPow (p : BitVec 18) (m : Nat) : BitVec 18 := (mulX p)^[m] 1#18

theorem xPow_succ (p : BitVec 18) (m : Nat) : xPow p (m + 1) = mulX p (xPow p m) := Function.iterate_succ_apply' _ _ _

theorem xPow_add (p : BitVec 18) (m n : Nat) : xPow p (m + n) = (mulX p)^[m] (xPow p n) := Function.iterate_add_apply _ _ _ _

/-- `X^m * b` is `m` multiplications of `b` by `X`. -/
theorem xPow_mulMod (p b : BitVec 18) (m : Nat) : mulMod p (xPow p m) b = (mulX p)^[m] b := by
  induction m with
  | zero => exact one_mulMod p b
  | succ m ih => rw [xPow_succ, mulMod_mulX, ih, Function.iterate_succ_apply']

theorem mulMod_xPow (p : BitVec 18) (m n : Nat) : mulMod p (xPow p m) (xPow p n) = xPow p (m + n) := by
  rw [xPow_mulMod, xPow_add]

/-- Square and multiply over the `k` low bits of the exponent. -/
theorem powXFrom_eq (p : BitVec 18) (n k m : Nat) : powXFrom p n k (xPow p m) = xPow p (m * 2 ^ k + n % 2 ^ k) := by
  induction k generalizing m with
  | zero => simp [powXFrom, Nat.mod_one]
  | succ k ih =>
    have bit : (if n.testBit k = true then mulX p (xPow p (m + m)) else xPow p (m + m)) =
        xPow p (m + m + (n.testBit k).toNat) := by
      cases n.testBit k with
      | false => rfl
      | true => exact (xPow_succ p _).symm
    simp only [powXFrom, mulMod_xPow, bit, ih, Nat.mod_pow_succ, ← Nat.toNat_testBit]
    congr 1
    ring

theorem powX_eq (p : BitVec 18) {i : Nat} (small : i < 2 ^ 18) : powX p i = xPow p i := by
  have run := powXFrom_eq p i 18 0
  rwa [Nat.mod_eq_of_lt small, zero_mul, zero_add] at run

/-- A power that has the period stays the same when the exponent is reduced. -/
theorem xPow_mod_period {p : BitVec 18} (period : xPow p goldPeriod = 1#18) (i : Nat) :
    xPow p (i % goldPeriod) = xPow p i := by
  have turns (k : Nat) : xPow p (goldPeriod * k) = 1#18 := by
    induction k with
    | zero => rfl
    | succ k ih => rw [Nat.mul_succ, xPow_add, period]; exact ih
  conv_rhs => rw [← Nat.mod_add_div i goldPeriod, xPow_add, turns]
  rfl

theorem powX_mod_period {p : BitVec 18} (period : xPow p goldPeriod = 1#18) (i : Nat) :
    powX p (i % goldPeriod) = xPow p i := by
  have small : i % goldPeriod < 2 ^ 18 := (Nat.mod_lt i (by decide)).trans (by decide)
  rw [powX_eq p small, xPow_mod_period period]

theorem xPow_period_polyX : xPow polyX goldPeriod = 1#18 := by
  rw [← powX_eq polyX (by decide)]
  decide +kernel

theorem xPow_period_polyY : xPow polyY goldPeriod = 1#18 := by
  rw [← powX_eq polyY (by decide)]
  decide +kernel

theorem iterate_mulX_xor (p : BitVec 18) (i : Nat) (a b : BitVec 18) :
    (mulX p)^[i] (a ^^^ b) = (mulX p)^[i] a ^^^ (mulX p)^[i] b := by
  induction i with
  | zero => rfl
  | succ i ih => simp only [Function.iterate_succ_apply', ih, mulX_xor]

/-- `X^18 = X^7 + 1`, times `X^i`. -/
theorem xPow_recurrence_polyX (i : Nat) : xPow polyX (i + 18) = xPow polyX (i + 7) ^^^ xPow polyX i := by
  have reduced : xPow polyX 18 = xPow polyX 7 ^^^ xPow polyX 0 := by decide +kernel
  rw [xPow_add, reduced, iterate_mulX_xor, ← xPow_add, ← xPow_add, add_zero]

/-- `X^18 = X^10 + X^7 + X^5 + 1`, times `X^i`. -/
theorem xPow_recurrence_polyY (i : Nat) :
    xPow polyY (i + 18) = xPow polyY (i + 10) ^^^ xPow polyY (i + 7) ^^^ xPow polyY (i + 5) ^^^ xPow polyY i := by
  have reduced : xPow polyY 18 = xPow polyY 10 ^^^ xPow polyY 7 ^^^ xPow polyY 5 ^^^ xPow polyY 0 := by decide +kernel
  rw [xPow_add, reduced]
  simp only [iterate_mulX_xor, ← xPow_add, add_zero]

/-! ## The two sequences (R700) -/

theorem foldl_xor_bits (bits : List Nat) (a b : BitVec 18) (x y : Bool) :
    bits.foldl (fun acc k => acc ^^ (a ^^^ b).getLsbD k) (x ^^ y) =
      (bits.foldl (fun acc k => acc ^^ a.getLsbD k) x ^^ bits.foldl (fun acc k => acc ^^ b.getLsbD k) y) := by
  induction bits generalizing x y with
  | nil => rfl
  | cons k bits ih =>
    have regrouped : (x ^^ y ^^ (a ^^^ b).getLsbD k) = ((x ^^ a.getLsbD k) ^^ (y ^^ b.getLsbD k)) := by
      rw [BitVec.getLsbD_xor, Bool.xor_assoc, Bool.xor_left_comm y, ← Bool.xor_assoc]
    simp only [List.foldl_cons, regrouped, ih]

theorem parity_xor (a b : BitVec 18) : parity (a ^^^ b) = (parity a ^^ parity b) := foldl_xor_bits _ a b false false

/-- `x(i)` is the constant coefficient of `X^i`. -/
theorem goldX_eq (i : Nat) : goldX i = (xPow polyX i).getLsbD 0 := by
  rw [goldX, powX_mod_period xPow_period_polyX]

/-- `y(i)` is the sum of the coefficients of `X^i`. -/
theorem goldY_eq (i : Nat) : goldY i = parity (xPow polyY i) := by
  rw [goldY, powX_mod_period xPow_period_polyY]

/-- The binary digits of `R_n(i)`. -/
theorem val_goldR (n i : Nat) :
    (goldR n i).val = 2 * (goldZ n ((i + 131072) % goldPeriod)).toNat + (goldZ n i).toNat := by
  rw [goldR]
  generalize goldZ n ((i + 131072) % goldPeriod) = high
  generalize goldZ n i = low
  cases high <;> cases low <;> rfl

/-- Settles O48: the recurrences are those of `X^i`, the quarters `val_goldR`. -/
theorem goldSequence : Obligations.GoldSequence := by
  refine ⟨?start, fun i lo hi => ?firstX, fun i hi => ?firstY, fun i => ?recX, fun i => ?recY, fun i => ?period,
    fun n i => ?turns⟩
  case start => rw [goldX_eq]; rfl
  case firstX =>
    have first : ∀ i < 18, 1 ≤ i → (xPow polyX i).getLsbD 0 = false := by decide +kernel
    rw [goldX_eq, first i (Nat.lt_succ_of_le hi) lo]
  case firstY =>
    have first : ∀ i < 18, parity (xPow polyY i) = true := by decide +kernel
    rw [goldY_eq, first i (Nat.lt_succ_of_le hi)]
  case recX => simp only [goldX_eq, xPow_recurrence_polyX, BitVec.getLsbD_xor]
  case recY => simp only [goldY_eq, xPow_recurrence_polyY, parity_xor]
  case period =>
    have reduced : (i + 262143) % goldPeriod = i % goldPeriod := Nat.add_mod_right i 262143
    rw [goldX, goldY, reduced]
    exact ⟨rfl, rfl⟩
  case turns => exact val_goldR n i

end Sys2Proof.Gold

namespace Sys2Proof.Emitter

open Sys2Proof.Machine Sys2Proof.Laws Sys2Proof.Numerics

/-! ## Quarter turns (R14, R702) -/

/-- Quarter turns add up. -/
theorem rotq_rotq (z : Cplx) (q r : Fin 4) : rotq (rotq z q) r = rotq z (q + r) := by
  fin_cases q <;> fin_cases r <;> simp [rotq]

theorem fneg_ne (a : F32) : fneg a ≠ a := by
  intro same
  have flipped := fsign_fneg a
  rw [same] at flipped
  exact Bool.not_ne_self _ flipped.symm

/-- The turn back is `4 - q` quarters, modulo 4. -/
theorem val_rotInv (q : Fin 4) : (rotInv q).val = (4 - q.val) % 4 := by
  rw [rotInv, Fin.neg_def]

/-- Two equal odd turns are a half turn. -/
theorem add_self_of_odd {q : Fin 4} (odd : q.val % 2 = 1) : q + q = 2 := by
  have turns : ∀ q : Fin 4, q.val % 2 = 1 → q + q = 2 := by decide
  exact turns q odd

/-- Settles O49: the two turns add up, to none for the descrambler and to half a turn for a second odd one. -/
theorem descrambleUndoesScramble : Obligations.DescrambleUndoesScramble := by
  intro n i z
  refine ⟨rfl, ⟨rotInv (goldR n i), val_rotInv _, rfl⟩, ?undone, fun odd => ?twice⟩
  case undone =>
    rw [dscr, scr, rotq_rotq, rotInv, add_neg_cancel]
    rfl
  case twice =>
    have half : scr n i (scr n i z) = ⟨fneg z.re, fneg z.im⟩ := by
      rw [scr, scr, rotq_rotq, add_self_of_odd odd]
      rfl
    rw [half]
    exact ⟨rfl, fun same => fneg_ne z.re (congrArg Cplx.re same)⟩

/-! ## The frame record (R711, R720) -/

/-- The frame record a data symbol of data index `didx` finds: index 0 opens it (R711). -/
def recordAt (pls : BitVec 7) (fid : BitVec 32) (didx : Nat) (c : CurFrame) : CurFrame :=
  if didx = 0 then startCur pls fid else c

/-- The symbol at `didx` of frame `fid` is the record's next one (R711). -/
abbrev Continues (fid : BitVec 32) (didx : Nat) (c : CurFrame) : Prop := c.valid = true ∧ fid = c.fid ∧ didx = c.n

/-- The record with its next symbol, complete when that is the last (R711). -/
def appended (z : Cplx) (c : CurFrame) : CurFrame :=
  { c with sym := c.sym ++ [z], n := c.n + 1, done := decide (c.n + 1 = c.count) }

theorem recordAt_done (pls : BitVec 7) (fid : BitVec 32) (didx : Nat) {c : CurFrame} (assembling : c.done = false) :
    (recordAt pls fid didx c).done = false := by
  unfold recordAt
  split
  · rfl
  · exact assembling

/-- A data symbol continues the record it finds, or is ignored (R711). -/
theorem curData_eq (n : Nat) (z : Cplx) (pls : BitVec 7) (fid : BitVec 32) (didx i : Nat) {c : CurFrame}
    (assembling : c.done = false) :
    curData n z pls fid didx i c =
      if Continues fid didx (recordAt pls fid didx c) then appended (dscr n i z) (recordAt pls fid didx c)
      else recordAt pls fid didx c := by
  have opened := recordAt_done pls fid didx assembling
  simp only [curData, ← recordAt.eq_def, opened, Bool.false_or, Bool.and_eq_true, beq_iff_eq, and_assoc]
  rfl

/-- An item taken from `L56` is processed when the block runs and no complete frame waits (R110). -/
theorem exec_dscStep_taken {s : State} {it : Item56} {rest : List Item56} (oldest : s.fifo.l56 = it :: rest)
    (running : s.ctl.running = true) (assembling : s.dsc.cur.done = false) :
    exec .dscStep s = .next (dscProcess it { s with fifo := { s.fifo with l56 := rest } }) := by
  have enabled : dscEnabled s = true := by simp [dscEnabled, running, oldest, assembling]
  simp only [exec, execDscStep, oldest, enabled, if_true]

/-- Settles O50: a data symbol by `curData_eq`, an ABORT by its definition. -/
theorem dscStepResult : Obligations.DscStepResult := by
  refine ⟨fun s z pls fid didx i rest oldest running assembling => ?data,
    fun s fid rest oldest running assembling => ?abort⟩
  case data =>
    rw [exec_dscStep_taken oldest running assembling, dscProcess, curData_eq _ z pls fid didx i assembling]
    rfl
  case abort =>
    rw [exec_dscStep_taken oldest running assembling]
    simp only [dscProcess, abortFrame, Bool.and_eq_true, beq_iff_eq]
    rfl

/-! ## The emitter's invariant (R721 to R723) -/

/-- A frame record: its symbols are counted, and it is complete only with all of its frame's (R67, R711). -/
structure RecordInv (c : CurFrame) : Prop where
  assembling : c.valid = true → c.sym.length = c.n ∧ c.count = dataCount c.pls
  finished : c.done = true → c.valid = true ∧ c.n = c.count ∧ 0 < c.count

theorem recordInv_cur {s : State} (h : DscInv s) : RecordInv s.dsc.cur := { h with }

/-- An empty record, as a reset, an ABORT and the drain step leave it. -/
theorem recordInv_empty : RecordInv curEmpty := ⟨nofun, nofun⟩

theorem recordInv_start (pls : BitVec 7) (fid : BitVec 32) : RecordInv (startCur pls fid) := ⟨fun _ => ⟨rfl, rfl⟩, nofun⟩

theorem recordInv_at (pls : BitVec 7) (fid : BitVec 32) (didx : Nat) {c : CurFrame} (h : RecordInv c) :
    RecordInv (recordAt pls fid didx c) := by
  unfold recordAt
  split
  · exact recordInv_start pls fid
  · exact h

/-- A symbol more keeps the count, and the last one completes the record (R711). -/
theorem recordInv_appended (z : Cplx) {c : CurFrame} (h : RecordInv c) (valid : c.valid = true) :
    RecordInv (appended z c) where
  assembling _ := by
    obtain ⟨counted, total⟩ := h.assembling valid
    exact ⟨by simp [appended, counted], total⟩
  finished last := by
    have last : c.n + 1 = c.count := of_decide_eq_true last
    exact ⟨valid, last, last ▸ Nat.succ_pos _⟩

theorem recordInv_curData (n : Nat) (z : Cplx) (pls : BitVec 7) (fid : BitVec 32) (didx i : Nat) {c : CurFrame}
    (h : RecordInv c) (assembling : c.done = false) : RecordInv (curData n z pls fid didx i c) := by
  have found := recordInv_at pls fid didx h
  rw [curData_eq n z pls fid didx i assembling]
  split
  · next continues =>
    obtain ⟨valid, -, -⟩ := continues
    exact recordInv_appended _ found valid
  · exact found

/-- Steps that change at most the record. -/
theorem dscInv_of_record {s t : State} {c : CurFrame} (h : DscInv s) (record : RecordInv c)
    (same : t.dsc = { s.dsc with cur := c }) : DscInv t where
  assembling := by rw [same]; exact record.assembling
  finished := by rw [same]; exact record.finished
  buffered := by rw [same]; exact h.buffered
  capacity := by rw [same]; exact h.capacity
  draining := by rw [same]; exact h.draining
  drained := by rw [same]; exact h.drained

theorem dscInv_of_dsc {s t : State} (h : DscInv s) (same : t.dsc = s.dsc) : DscInv t :=
  dscInv_of_record h (recordInv_cur h) same

/-- The other units leave the descrambler (R112, R113). -/
theorem dsc_of_acts {p : Groups.Part} {f : State → State} (acts : Groups.ActsOn p f) (apart : Groups.Part.dsc ≠ p)
    (s : State) : (f s).dsc = s.dsc := by
  rw [acts.eq_blend s]
  exact if_neg apart

theorem dscInv_of_acts {p : Groups.Part} {f : State → State} {s : State} (acts : Groups.ActsOn p f) (h : DscInv s)
    (apart : Groups.Part.dsc ≠ p := by decide) : DscInv (f s) :=
  dscInv_of_dsc h (dsc_of_acts acts apart s)

theorem dscProcess_inv (it : Item56) {s : State} (h : DscInv s) (assembling : s.dsc.cur.done = false) :
    DscInv (dscProcess it s) := by
  cases it with
  | data z pls fid didx i => exact dscInv_of_record h (recordInv_curData _ z pls fid didx i (recordInv_cur h) assembling) rfl
  | abort fid =>
    refine dscInv_of_record h ?_ rfl
    split
    · exact recordInv_empty
    · exact recordInv_cur h

/-! The output buffer (R171, R205, R722). -/

/-- A complete record is a complete frame (R721). -/
theorem completeFrame_of_done {c : CurFrame} (h : RecordInv c) (complete : c.done = true) :
    completeFrame ⟨c.pls, c.count, c.sym⟩ := by
  obtain ⟨valid, all, some⟩ := h.finished complete
  obtain ⟨counted, total⟩ := h.assembling valid
  exact ⟨counted.trans all, total, some⟩

/-- A complete frame enters behind the others (R722): the beats of the oldest go on, or start with its own. -/
theorem dscInv_push {s t : State} {f : Frame} (h : DscInv s) (complete : completeFrame f)
    (room : s.dsc.outbuf.length < Config.outFrames)
    (pushed : t.dsc = { s.dsc with outbuf := s.dsc.outbuf ++ [f], cur := curEmpty }) : DscInv t where
  assembling := by rw [pushed]; exact recordInv_empty.assembling
  finished := by rw [pushed]; exact recordInv_empty.finished
  buffered := by
    rw [pushed]
    intro g mem
    obtain old | rfl := List.mem_append.mp mem |>.imp_right List.mem_singleton.mp
    · exact h.buffered g old
    · exact complete
  capacity := by rw [pushed]; simpa using room
  draining := by
    rw [pushed]
    intro g rest oldest
    cases buffer : s.dsc.outbuf with
    | nil =>
      obtain ⟨-, -, some⟩ := complete
      rw [buffer] at oldest
      cases oldest
      exact h.drained buffer ▸ some
    | cons g' rest' =>
      rw [buffer] at oldest
      cases oldest
      exact h.draining g rest' buffer
  drained := by rw [pushed]; simp

theorem drainDsc_inv {s : State} (h : DscInv s) : DscInv (drainDsc s) := by
  unfold drainDsc
  split
  · next enabled =>
    simp only [Bool.and_eq_true, decide_eq_true_eq] at enabled
    obtain ⟨⟨-, complete⟩, room⟩ := enabled
    exact dscInv_push h (completeFrame_of_done (recordInv_cur h) complete) room rfl
  · exact h

theorem drainStep_inv (g : Group) {s : State} (h : DscInv s) : DscInv (drainStep g s) := by
  cases g with
  | dsc => exact drainDsc_inv h
  | agc | mf | str | pls | cpr =>
    simp only [drainStep, drainAgc, drainMf, drainStr, drainPls, drainCpr]
    repeat' split
    all_goals exact dscInv_of_dsc h rfl

/-- The last beat of a frame removes it, and the next frame starts with its first symbol (R205). -/
theorem dscInv_pop {s t : State} {f : Frame} {rest : List Frame} (h : DscInv s) (oldest : s.dsc.outbuf = f :: rest)
    (popped : t.dsc = { s.dsc with outbuf := rest, drain := 0 }) : DscInv t where
  assembling := by rw [popped]; exact h.assembling
  finished := by rw [popped]; exact h.finished
  buffered := by rw [popped]; exact fun g mem => h.buffered g (oldest ▸ List.mem_cons_of_mem f mem)
  capacity := by rw [popped]; exact Steps.rest_length_le h.capacity oldest
  draining := by
    rw [popped]
    rintro g rest' rfl
    obtain ⟨-, -, some⟩ := h.buffered g (by simp [oldest])
    exact some
  drained := by rw [popped]; exact fun _ => rfl

/-- Any other beat moves on within its frame (R205). -/
theorem dscInv_beat {s t : State} {f : Frame} {rest : List Frame} (h : DscInv s) (oldest : s.dsc.outbuf = f :: rest)
    (notLast : s.dsc.drain + 1 ≠ f.count) (moved : t.dsc = { s.dsc with drain := s.dsc.drain + 1 }) : DscInv t where
  assembling := by rw [moved]; exact h.assembling
  finished := by rw [moved]; exact h.finished
  buffered := by rw [moved]; exact h.buffered
  capacity := by rw [moved]; exact h.capacity
  draining := by
    rw [moved]
    intro g rest' buffer
    cases oldest.symm.trans buffer
    exact lt_of_le_of_ne (h.draining f rest oldest) notLast
  drained := by
    rw [moved]
    intro empty
    cases oldest.symm.trans empty

/-! ## Every step -/

theorem csrReadEffect_dsc (r : Csr) (s : State) : (csrReadEffect s r).dsc = s.dsc := by cases r <;> rfl

theorem csrWriteEffect_dsc (r : Csr) (w : BitVec 32) (s : State) : (csrWriteEffect s r w).dsc = s.dsc := by
  unfold csrWriteEffect
  split <;> rfl

/-- An admitted COMMIT empties the record or leaves the descrambler; the output buffer stays (R221, R902). -/
theorem commitEffect_inv {s : State} (h : DscInv s) : DscInv (answerOkay (commitEffect s)) := by
  unfold commitEffect
  split
  · exact dscInv_of_record h recordInv_empty rfl
  · exact dscInv_of_dsc h rfl

theorem powerOnReset_inv (s : State) : DscInv (powerOnReset s) where
  assembling := nofun
  finished := nofun
  buffered := nofun
  capacity := Nat.zero_le _
  draining := nofun
  drained := fun _ => rfl

theorem effect_inv {s t : State} (effect : Steps.Effect s t) (h : DscInv s) : DscInv t := by
  cases effect with
  | softReset => exact dscInv_of_record h recordInv_empty rfl
  | read r => exact dscInv_of_dsc h (csrReadEffect_dsc r s)
  | write r w => exact dscInv_of_dsc h (csrWriteEffect_dsc r w s)
  | beatOut f rest oldest =>
    split
    · exact dscInv_pop h oldest rfl
    · next notLast => exact dscInv_beat h oldest notLast rfl
  | agcStep x rest => exact dscInv_of_acts (Groups.agcProcess_acts x) (dscInv_of_dsc h rfl)
  | mfStep it rest => exact dscInv_of_acts (Groups.mfProcess_acts it) (dscInv_of_dsc h rfl)
  | strStep it rest => exact dscInv_of_acts (Groups.strProcess_acts it) (dscInv_of_dsc h rfl)
  | plsStep it rest => exact dscInv_of_acts (Groups.plsProcess_acts it) (dscInv_of_dsc h rfl)
  | cprStep it rest => exact dscInv_of_acts (Groups.cprProcess_acts it) (dscInv_of_dsc h rfl)
  | mix z pos => exact dscInv_of_acts (Groups.mixSymbol_acts z pos) h
  | pilotSymbol blk o s1 => exact dscInv_of_acts (Groups.pilotSymbol_acts blk o s1) h
  | dscStep it rest _ assembling =>
    have taken : DscInv { s with fifo := { s.fifo with l56 := rest } } := dscInv_of_dsc h rfl
    exact dscProcess_inv it taken assembling
  | drain g => exact drainStep_inv g h
  | none | nop | reject | start | stop | forceSearch | clearCounters | refusedRead | refusedWrite | beatTaken | beatKept
  | noBeat | hdrTest | hdrDecode | freqUpdate | phaseRef => exact dscInv_of_dsc h rfl

/-- Settles O60, by the inversion of a step (`agentStep_cases`): symbols enter the record by `dscProcess_inv`, frames the buffer
by `dscInv_push`, and leave it by `dscInv_pop`. -/
theorem stepKeepsFramesComplete : Obligations.StepKeepsFramesComplete := by
  intro s t h next
  obtain rfl | ⟨a, rest, -, next⟩ := Steps.step_cases next
  · exact h
  · have h : DscInv { s with agenda := rest } := dscInv_of_dsc h rfl
    obtain ⟨-, rfl⟩ | ⟨-, -, rfl⟩ | effect := Steps.agentStep_cases next
    · exact powerOnReset_inv _
    · exact commitEffect_inv h
    · exact effect_inv effect h

end Sys2Proof.Emitter

namespace Sys2Proof.Events

open Sys2Proof.Machine Sys2Proof.Laws

/-! ## Setting an event (R40, R801, R802) -/

/-- The event's bit in `IRQ_STATUS` and `IRQ_ENABLE`, as a number (R40, R801). -/
def eventBit : Event → Nat
  | .lock => 0
  | .lockLost => 1
  | .frameOut => 2
  | .freqUpd => 3
  | .cfgFail => 4
  | .numeric => 5
  | .cmdErr => 6
  | .pilotFail => 7
  | .frameDrop => 8
  | .busErr => 9

theorem eventBit_injective : Function.Injective eventBit := by
  intro d e same
  cases d <;> cases e <;> simp [eventBit] at same ⊢

theorem eventMask_getLsbD (e : Event) (k : Nat) : (eventMask e).getLsbD k = decide (k = eventBit e) := by
  have single : eventMask e = BitVec.twoPow 10 (eventBit e) := by cases e <;> rfl
  have within : eventBit e < 10 := by cases e <;> decide
  rw [single, BitVec.getLsbD_twoPow]
  simp [within, eq_comm]

theorem irqSet_pending (e : Event) (s : State) (k : Nat) :
    (irqSet e s).ctl.irqStatus.getLsbD k = (s.ctl.irqStatus.getLsbD k || decide (k = eventBit e)) := by
  rw [irqSet_ctl, BitVec.getLsbD_or, eventMask_getLsbD]

/-- The line is up when some pending bit is enabled (R802). -/
theorem irqLine_iff (s : State) :
    irqLine s = true ↔ ∃ b, b < 10 ∧ s.ctl.irqStatus.getLsbD b = true ∧ s.ctl.irqEnable.getLsbD b = true := by
  simp [irqLine, BitVec.eq_of_getLsbD_eq_iff]

/-- Settles O51: an event's mask is its one bit (`irqSet_pending`), and a word other than 0 has a bit (`irqLine_iff`). -/
theorem interruptLine : Obligations.InterruptLine := by
  refine ⟨fun e s => ⟨rfl, fun b _ => ?_⟩, irqLine_iff⟩
  rw [irqSet_pending]
  cases e <;> rfl

end Sys2Proof.Events

namespace Sys2Proof.Events

open Sys2Proof.Machine Sys2Proof.Laws Sys2Proof.Groups

/-! ## Reports

What a step may do to the events and to `RUNNING`: most operations raise events of a known set, clear none and leave
`RUNNING` (R801, R804, R806). -/

/-- Only the events `may` are raised, none is cleared, and `RUNNING` stays. -/
structure Reports (may : Event → Prop) (s t : State) : Prop where
  raised : ∀ e, raises (eventBit e) s t → may e
  pending : s.ctl.irqStatus &&& t.ctl.irqStatus = s.ctl.irqStatus
  running : t.ctl.running = s.ctl.running

namespace Reports

variable {may : Event → Prop} {s t u : State}

theorem of_same (pending : t.ctl.irqStatus = s.ctl.irqStatus) (running : t.ctl.running = s.ctl.running) :
    Reports may s t where
  raised e raised := by
    obtain ⟨clear, set⟩ := raised
    rw [pending, clear] at set
    cases set
  pending := by rw [pending, BitVec.and_self]
  running := running

theorem refl (s : State) : Reports may s s := of_same rfl rfl

theorem trans (h : Reports may s t) (k : Reports may t u) : Reports may s u where
  raised e raised := by
    obtain ⟨clear, set⟩ := raised
    cases between : t.ctl.irqStatus.getLsbD (eventBit e) with
    | true => exact h.raised e ⟨clear, between⟩
    | false => exact k.raised e ⟨between, set⟩
  pending := by rw [← h.pending, BitVec.and_assoc, k.pending]
  running := k.running.trans h.running

/-- After an update of other items. -/
theorem after (k : Reports may t u) (pending : t.ctl.irqStatus = s.ctl.irqStatus := by rfl)
    (running : t.ctl.running = s.ctl.running := by rfl) : Reports may s u :=
  (of_same pending running).trans k

/-- Before an update of other items. -/
theorem before (h : Reports may s t) (pending : u.ctl.irqStatus = t.ctl.irqStatus := by rfl)
    (running : u.ctl.running = t.ctl.running := by rfl) : Reports may s u :=
  h.trans (of_same pending running)

theorem ite {c : Prop} [Decidable c] (h : Reports may s t) (k : Reports may s u) :
    Reports may s (if c then t else u) := by
  split
  · exact h
  · exact k

/-- `irq_set(e)` raises `e` (R802). -/
theorem irqSet {e : Event} (allowed : may e) (s : State) : Reports may s (irqSet e s) where
  raised d raised := by
    obtain ⟨clear, set⟩ := raised
    rw [irqSet_pending, clear, Bool.false_or, decide_eq_true_eq] at set
    exact eventBit_injective set ▸ allowed
  pending := by
    refine BitVec.eq_of_getLsbD_eq fun k _ => ?_
    rw [BitVec.getLsbD_and, irqSet_pending]
    exact inf_sup_self
  running := rfl

theorem raiseNumIf (allowed : may .numeric) (clipped : Bool) (u : NumUnit) (s : State) :
    Reports may s (raiseNumIf clipped u s) :=
  ite ((irqSet allowed _).after) (refl s)

theorem rejectCommand (allowed : may .cmdErr) (reason : BitVec 2) (op : BitVec 8) (s : State) :
    Reports may s (rejectCommand reason op s) :=
  (irqSet allowed _).after

theorem dropFrame (allowed : may .frameDrop) (s : State) : Reports may s (dropFrame s) := (irqSet allowed _).after

end Reports

/-! ## Which operation raises which event (R801) -/

/-- The operation raises the event. -/
inductive RaisedBy : Instr → Event → Prop where
  | confirm : RaisedBy .plsStep .lock
  | enterSearch : RaisedBy .plsStep .lockLost
  | dropInSync : RaisedBy .plsStep .frameDrop
  | estimate : RaisedBy .freqUpdate .freqUpd
  | illegal : RaisedBy .commit .cfgFail
  | agcClips : RaisedBy .agcStep .numeric
  | mfClips : RaisedBy .mfStep .numeric
  | strClips : RaisedBy .strStep .numeric
  | commitRunning : RaisedBy .commit .cmdErr
  | startInvalid : RaisedBy .start .cmdErr
  | notACommand (w : BitVec 32) : RaisedBy (.reserved w) .cmdErr
  | pilotsAbsent (blk o : BitVec 8) (z : Cplx) : RaisedBy (.pilotSymbol blk o z) .pilotFail
  | abort : RaisedBy .dscStep .frameDrop
  | refusedRead (off : BitVec 12) (size : Nat) : RaisedBy (.csrRead off size) .busErr
  | refusedWrite (off : BitVec 12) (size : Nat) (w : BitVec 32) : RaisedBy (.csrWrite off size w) .busErr

/-- The agent's step raises the event. -/
inductive Source : Action → Event → Prop where
  | presented {a : Action} {i : Instr} {e : Event} (operation : presents a i) (raised : RaisedBy i e) : Source a e
  | cprEstimate : Source .cprStep .freqUpd
  | cprPilotsAbsent : Source .cprStep .pilotFail
  | frameOut : Source (.drain .dsc) .frameOut

/-! ## The synchroniser (R520 to R537) -/

theorem leaveLock_reports (s : State) : Reports (RaisedBy .plsStep) s (leaveLock s) :=
  .ite (.refl s) (.after (.irqSet .enterSearch _))

theorem forceCheck_reports (s : State) : Reports (RaisedBy .plsStep) s (forceCheck s) := by
  have host : Reports (RaisedBy .plsStep) s (hostForce s) := .ite (.after (leaveLock_reports _)) (.refl s)
  have carrier (t : State) : Reports (RaisedBy .plsStep) t (carrierForce t) :=
    .ite (.ite (.after (leaveLock_reports _)) (.of_same rfl rfl)) (.refl t)
  exact host.trans (carrier _)

theorem startFrame_reports (p : BitVec 7) (s : State) : Reports (RaisedBy .plsStep) s (startFrame p s) :=
  .ite (.of_same rfl rfl) (.ite (.after (.dropFrame .dropInSync _)) (.of_same rfl rfl))

theorem emitHeader_reports (w : List Cplx) (ws : List Idx) (s : State) :
    Reports (RaisedBy .plsStep) s (emitHeader w ws s) := by
  rw [emitHeader_eq]
  exact .of_same rfl rfl

theorem searchStep_reports (idx : Idx) (s : State) : Reports (RaisedBy .plsStep) s (searchStep idx s) :=
  .ite (.ite (c := (hdrTest s).pls.hit = true) (.of_same rfl rfl) (.of_same rfl rfl)) (.refl s)

theorem enterLock_reports (d : Pend) (s : State) : Reports (RaisedBy .plsStep) s (enterLock d s) :=
  .trans (.before (.after (.irqSet .confirm _))) (startFrame_reports _ _)

theorem confirmStep_reports (y : Cplx) (smp idx : Idx) (s : State) :
    Reports (RaisedBy .plsStep) s (confirmStep y smp idx s) := by
  unfold confirmStep
  split
  · exact .after (searchStep_reports idx _)
  · next d _ =>
    have locked := enterLock_reports d s
    have headed := locked.trans (emitHeader_reports d.w d.wsmp _)
    have staged (t : State) : Reports (RaisedBy .plsStep) t (emit y smp 90 t) := .of_same rfl rfl
    have cleared (t : State) : Reports (RaisedBy .plsStep) t (clearPend t) := .of_same rfl rfl
    exact .ite (.trans (.ite (headed.trans (staged _)) locked) (cleared _)) (.after (searchStep_reports idx _))

theorem acceptHeader_reports (p : BitVec 7) (idx : Idx) (s : State) :
    Reports (RaisedBy .plsStep) s (acceptHeader p idx s) := by
  have started : Reports (RaisedBy .plsStep) s (startFrame p (lastHdr (idx - 89#64) (s.pls.wsmp.getD 0 0#64) s)) :=
    .after (startFrame_reports p _)
  exact .ite (started.trans (emitHeader_reports _ _ _)) started

theorem failHeader_reports (p : BitVec 7) (s : State) : Reports (RaisedBy .plsStep) s (failHeader p s) :=
  .ite (c := modcodOf p = 0) (.of_same rfl rfl) (.after (.dropFrame .dropInSync _))

theorem check_reports (idx : Idx) (s : State) : Reports (RaisedBy .plsStep) s (check idx s) :=
  .ite (c := lockIsLost (checkHeader s) = true) (.after (.irqSet .enterSearch _))
    (.ite (.after (acceptHeader_reports _ idx _)) (.after (failHeader_reports _ _)))

theorem trackStep_reports (y : Cplx) (smp idx : Idx) (s : State) :
    Reports (RaisedBy .plsStep) s (trackStep y smp idx s) :=
  .ite (.ite (.of_same rfl rfl) (.of_same rfl rfl)) (.ite (.after (check_reports idx _)) (.of_same rfl rfl))

theorem plsCase_reports (it : Item34) (idx : Idx) (s : State) : Reports (RaisedBy .plsStep) s (plsCase it idx s) := by
  unfold plsCase
  split
  · exact searchStep_reports idx s
  · exact confirmStep_reports it.y it.smp idx s
  · exact trackStep_reports it.y it.smp idx s

theorem plsProcess_reports (it : Item34) (s : State) : Reports (RaisedBy .plsStep) s (plsProcess it s) :=
  (forceCheck_reports s).trans (.after (plsCase_reports it _ _))

/-! ## Carrier recovery (R601 to R640) -/

section
variable {may : Event → Prop}

theorem mixSymbol_reports (z : Cplx) (pos : Nat) (s : State) : Reports may s (mixSymbol z pos s) :=
  .before (.ite (c := pos = 0 ∧ s.cpr.fPendV = true) (t := applyFreq s) (.of_same rfl rfl) (.refl s))

theorem frameStart_reports (it : Item45) (s : State) : Reports may s (frameStart it s) := by
  have cut : Reports may s (reportCut s) := .ite (.of_same rfl rfl) (.refl s)
  have failed (t : State) : Reports may t (dropIfFailed it t) := .ite (.of_same rfl rfl) (.of_same rfl rfl)
  exact cut.trans (.after (failed _))

theorem freqUpdate_reports (allowed : may .freqUpd) (s : State) : Reports may s (freqUpdate s) :=
  .after (.irqSet allowed _)

theorem headerSymbol_reports (allowed : may .freqUpd) (z s1 : Cplx) (pos : Nat) (s : State) :
    Reports may s (headerSymbol z s1 pos s) := by
  have estimated (t : State) : Reports may t (estimate t) :=
    .ite (.after (freqUpdate_reports allowed _)) (.of_same rfl rfl)
  have stored : Reports may s (storeHeader z s1 pos s) := .of_same rfl rfl
  have referred (t : State) : Reports may t (phaseRef t) := .of_same rfl rfl
  exact .ite (stored.trans ((estimated _).trans (referred _))) stored

theorem pilotSymbol_reports (allowed : may .pilotFail) (blk o : Nat) (s1 : Cplx) (s : State) :
    Reports may s (pilotSymbol blk o s1 s) := by
  have failed (t : State) : Reports may t (pilotFail t) := .before (.after (.irqSet allowed _))
  exact .ite (.ite (.after (failed _)) (.of_same rfl rfl)) (.of_same rfl rfl)

theorem dataSymbol_reports (didx pos : Nat) (s1 : Cplx) (s : State) : Reports may s (dataSymbol didx pos s1 s) :=
  .ite (.of_same rfl rfl) (.of_same rfl rfl)

theorem cprCase_reports (estimates : may .freqUpd) (fails : may .pilotFail) (it : Item45) (s : State) :
    Reports may s (cprCase it s) := by
  unfold cprCase
  split
  · exact headerSymbol_reports estimates _ _ _ s
  · exact pilotSymbol_reports fails _ _ _ s
  · exact dataSymbol_reports _ _ _ s

theorem cprBody_reports (estimates : may .freqUpd) (fails : may .pilotFail) (it : Item45) (s : State) :
    Reports may s (cprBody it s) := by
  have mixed : Reports may s
      (mixSymbol it.z it.pos { s with cpr := { s.cpr with fr := { s.cpr.fr with next := it.pos + 1 } } }) :=
    .after (mixSymbol_reports it.z it.pos _)
  have closed (t : State) : Reports may t (closeFrame it t) := .ite (.of_same rfl rfl) (.refl t)
  exact .ite mixed (mixed.trans ((cprCase_reports estimates fails it _).trans (closed _)))

theorem cprProcess_reports (estimates : may .freqUpd) (fails : may .pilotFail) (it : Item45) (s : State) :
    Reports may s (cprProcess it s) :=
  .ite ((frameStart_reports it s).trans (cprBody_reports estimates fails it _))
    (.ite (cprBody_reports estimates fails it s) (.refl s))

end

/-! ## The timing loop and the descrambler (R402, R711, R720) -/

theorem strLoop_reports (y : List Cplx) (smp : Idx) (k : Nat) (s : State) :
    Reports (RaisedBy .strStep) s (strLoop y smp k s) :=
  Steps.strLoop_induction (P := Reports (RaisedBy .strStep) s) y smp (fun _ h => h.before)
    (fun _ h => h.trans (.after (.raiseNumIf .strClips _ .str _))) k s (.refl s)

theorem strProcess_reports (it : Item23) (s : State) : Reports (RaisedBy .strStep) s (strProcess it s) :=
  .before (strLoop_reports it.y it.smp 3 s)

theorem dscProcess_reports (it : Item56) (s : State) : Reports (RaisedBy .dscStep) s (dscProcess it s) := by
  cases it with
  | data => exact .of_same rfl rfl
  | abort => exact .after (.dropFrame .abort _)

/-! ## Process and drain steps (R110, R722) -/

theorem onOldest_reports {may : Event → Prop} {α : Type} {queue : State → List α} {enabled : State → Bool}
    {run : α → List α → State → State} {s : State} (taken : ∀ x rest, Reports may s (run x rest s)) :
    Reports may s (onOldest queue enabled run s) := by
  unfold onOldest
  split
  · exact .refl s
  · exact .ite (taken _ _) (.refl s)

theorem agcTurn_reports (s : State) : Reports (RaisedBy .agcStep) s (agcTurn s) :=
  onOldest_reports fun _ _ => .after (.raiseNumIf .agcClips _ .agc _)

theorem mfTurn_reports (s : State) : Reports (RaisedBy .mfStep) s (mfTurn s) :=
  onOldest_reports fun _ _ => .after (.raiseNumIf .mfClips _ .mf _)

theorem strTurn_reports (s : State) : Reports (RaisedBy .strStep) s (strTurn s) :=
  onOldest_reports fun it _ => .after (strProcess_reports it _)

theorem plsTurn_reports (s : State) : Reports (RaisedBy .plsStep) s (plsTurn s) :=
  onOldest_reports fun it _ => .after (plsProcess_reports it _)

theorem cprTurn_reports (s : State) : Reports (Source .cprStep) s (cprTurn s) :=
  onOldest_reports fun it _ => .after (cprProcess_reports .cprEstimate .cprPilotsAbsent it _)

theorem dscTurn_reports (s : State) : Reports (RaisedBy .dscStep) s (dscTurn s) :=
  onOldest_reports fun it _ => .after (dscProcess_reports it _)

theorem drainStep_reports (g : Group) (s : State) : Reports (Source (.drain g)) s (drainStep g s) := by
  cases g with
  | dsc => exact .ite (.after (.irqSet .frameOut _)) (.refl s)
  | agc | mf | str | pls | cpr =>
    simp only [drainStep, drainAgc, drainMf, drainStr, drainPls, drainCpr]
    split
    · exact .refl s
    · exact .ite (.of_same rfl rfl) (.refl s)

/-! ## Host accesses (R200 to R203, R221) -/

theorem cmdCommit_reports (s : State) : Reports (RaisedBy .commit) s (cmdCommit s) := by
  have admitted : Reports (RaisedBy .commit) s (commitEffect s) := .ite (.of_same rfl rfl) (.after (.irqSet .illegal _))
  exact .ite (.rejectCommand .commitRunning _ _ s) admitted

theorem csrReadEffect_ctl (s : State) (r : Csr) : (csrReadEffect s r).ctl = s.ctl := by cases r <;> rfl

/-- A write to any register but `IRQ_STATUS` leaves the pending events and `RUNNING`. -/
theorem csrWriteEffect_reports {may : Event → Prop} {r : Csr} (other : r ≠ .irqStatus) (w : BitVec 32) (s : State) :
    Reports may s (csrWriteEffect s r w) := by
  unfold csrWriteEffect
  split
  · exact absurd rfl other
  all_goals exact .of_same rfl rfl

/-- A write to `IRQ_STATUS` raises nothing: it can clear only (R200, R804). -/
theorem not_raises_of_clear (k : Nat) (w : BitVec 32) (s : State) : ¬ raises k s (csrWriteEffect s .irqStatus w) := by
  rintro ⟨clear, set⟩
  simp [csrWriteEffect, clear] at set

/-! ## Every operation -/

/-- What an operation may do to the events and to `RUNNING`. -/
structure Follows (i : Instr) (s t : State) : Prop where
  raised : ∀ e, raises (eventBit e) s t → RaisedBy i e
  pending : (∀ w, i ≠ .csrWrite 0x018#12 4 w) → s.ctl.irqStatus &&& t.ctl.irqStatus = s.ctl.irqStatus
  running : t.ctl.running ≠ s.ctl.running → i = .start ∨ i = .stop ∨ i = .softReset

theorem Reports.follows {i : Instr} {s t : State} (h : Reports (RaisedBy i) s t) : Follows i s t :=
  ⟨h.raised, fun _ => h.pending, fun changed => absurd h.running changed⟩

theorem follows_of_same {i : Instr} {s t : State} (pending : t.ctl.irqStatus = s.ctl.irqStatus)
    (running : t.ctl.running = s.ctl.running) : Follows i s t :=
  (Reports.of_same pending running).follows

/-- START, STOP and SOFT_RESET change `RUNNING`, and no event. -/
theorem follows_of_switch {i : Instr} {s t : State} (switch : i = .start ∨ i = .stop ∨ i = .softReset)
    (same : t.ctl.irqStatus = s.ctl.irqStatus) : Follows i s t where
  raised := (Reports.of_same (t := { t with ctl := { t.ctl with running := s.ctl.running } }) same rfl).raised
  pending _ := by rw [same, BitVec.and_self]
  running _ := switch

/-- An operation that waits for an enabling condition; otherwise nothing happens (R110). -/
theorem follows_of_guard {i : Instr} {s t u : State} {ready : Bool} (run : Reports (RaisedBy i) s u)
    (h : (if ready = true then Host.Outcome.next (φ := Fault) (ρ := Refusal) u else .next s) = .next t) : Follows i s t := by
  split at h <;> cases h
  · exact run.follows
  · exact (Reports.refl s).follows

theorem csrWrite_follows {off : BitVec 12} {size : Nat} {w : BitVec 32} {s t : State}
    (other : isCommandWrite off size = false) (h : exec (.csrWrite off size w) s = .next t) :
    Follows (.csrWrite off size w) s t := by
  simp only [exec, execCsrWrite] at h
  split at h
  · cases h; exact (Reports.after (.irqSet (.refusedWrite off size w) _)).follows
  · next reached =>
    obtain ⟨rfl, rfl⟩ := admitted_eq_some reached
    cases other
  · next r _ reached =>
    obtain ⟨rfl, rfl⟩ := admitted_eq_some reached
    cases h
    by_cases status : r = .irqStatus
    · subst status
      exact ⟨fun e raised => absurd raised (not_raises_of_clear _ w s), fun notClear => absurd rfl (notClear w),
        fun changed => absurd rfl changed⟩
    · exact (csrWriteEffect_reports status w s).before.follows

theorem exec_follows {i : Instr} {s t : State} (h : exec i s = .next t)
    (notCmd : ∀ off size w, i = .csrWrite off size w → isCommandWrite off size = false) : Follows i s t := by
  cases i with
  | nop | forceSearch | clearCounters => cases h; exact follows_of_same rfl rfl
  | commit => cases h; exact (cmdCommit_reports s).before.follows
  | start =>
    simp only [exec, execStart, cmdStart] at h
    split at h <;> cases h
    · exact follows_of_switch (.inl rfl) rfl
    · exact (Reports.rejectCommand .startInvalid _ _ s).before.follows
  | stop => cases h; exact follows_of_switch (.inr (.inl rfl)) rfl
  | softReset => cases h; exact follows_of_switch (.inr (.inr rfl)) rfl
  | reserved w =>
    cases h
    have rejected (reason : BitVec 2) : Reports (RaisedBy (.reserved w)) s (rejectCommand reason (w.extractLsb' 24 8) s) :=
      .rejectCommand (.notACommand w) _ _ s
    exact (Reports.ite (rejected 1#2) (.ite (rejected 2#2) (.refl s))).before.follows
  | csrRead off size =>
    simp only [exec, execCsrRead] at h
    split at h <;> cases h
    · exact (Reports.after (.irqSet (.refusedRead off size) _)).follows
    · next r _ =>
      have same := csrReadEffect_ctl s r
      exact follows_of_same (congrArg Ctl.irqStatus same) (congrArg Ctl.running same)
  | csrWrite off size w => exact csrWrite_follows (notCmd off size w rfl) h
  | inBeat i q =>
    simp only [exec, execInBeat] at h
    split at h <;> cases h <;> exact follows_of_same rfl rfl
  | outBeat =>
    simp only [exec, execOutBeat] at h
    split at h <;> cases h <;> exact follows_of_same rfl rfl
  | agcStep => cases (exec_agcStep s).symm.trans h; exact (agcTurn_reports s).follows
  | mfStep => cases (exec_mfStep s).symm.trans h; exact (mfTurn_reports s).follows
  | strStep => cases (exec_strStep s).symm.trans h; exact (strTurn_reports s).follows
  | plsStep => cases (exec_plsStep s).symm.trans h; exact (plsTurn_reports s).follows
  | dscStep => cases (exec_dscStep s).symm.trans h; exact (dscTurn_reports s).follows
  | hdrTest => exact follows_of_guard (u := hdrTest s) (.of_same rfl rfl) h
  | hdrDecode => exact follows_of_guard (u := hdrDecode s) (.of_same rfl rfl) h
  | phaseRef => exact follows_of_guard (u := phaseRef s) (.of_same rfl rfl) h
  | freqUpdate => exact follows_of_guard (freqUpdate_reports .estimate s) h
  | mix z pos => exact follows_of_guard (mixSymbol_reports z pos.toNat s) h
  | pilotSymbol blk o z => exact follows_of_guard (pilotSymbol_reports (.pilotsAbsent blk o z) blk.toNat o.toNat z s) h

/-! ## Every agent's step -/

/-- A presented packet's step is that of its operation. -/
theorem agentStep_follows {p : Packet} {s t : State} (h : agentStep (.present p) s = .next t) :
    ∃ i, presents (.present p) i ∧ Follows i s t := by
  cases decoded : decode p with
  | error why => simp [agentStep, decoded] at h
  | ok i =>
    rw [Steps.agentStep_present decoded] at h
    refine ⟨i, ⟨p, rfl, decoded⟩, exec_follows h ?_⟩
    rintro off size w rfl
    exact Steps.decode_csrWrite decoded

/-- Power-on reset raises nothing: it clears the pending events (R900). -/
theorem not_raises_powerOnReset (k : Nat) (s : State) : ¬ raises k s (powerOnReset s) := by
  rintro ⟨-, set⟩
  simp [powerOnReset, State.reset] at set

/-- A step that raises an event is one of the event's sources (R801). -/
theorem source_of_raises {a : Action} {s t : State} (h : agentStep a s = .next t) (e : Event)
    (raised : raises (eventBit e) s t) : Source a e := by
  cases a with
  | powerOn => cases h; exact absurd raised (not_raises_powerOnReset _ s)
  | drain g => cases h; exact (drainStep_reports g s).raised e raised
  | cprStep => cases (agentStep_cprStep s).symm.trans h; exact (cprTurn_reports s).raised e raised
  | present p =>
    obtain ⟨i, operation, follows⟩ := agentStep_follows h
    exact .presented operation (follows.raised e raised)

/-- Settles O52, by the sources of each event (`source_of_raises`). -/
theorem eventsRaisedBySourcesOnly : Obligations.EventsRaisedBySourcesOnly := by
  intro s t a h
  have source := source_of_raises h
  refine ⟨fun raised => ?lock, fun raised => ?lockLost, fun raised => ?frameOut, fun raised => ?freqUpd,
    fun raised => ?cfgFail, fun raised => ?numeric, fun raised => ?cmdErr, fun raised => ?pilotFail,
    fun raised => ?frameDrop, fun raised => ?busErr⟩
  case lock => obtain ⟨operation, ⟨⟩⟩ := source .lock raised; exact operation
  case lockLost => obtain ⟨operation, ⟨⟩⟩ := source .lockLost raised; exact operation
  case cfgFail => obtain ⟨operation, ⟨⟩⟩ := source .cfgFail raised; exact operation
  case frameOut =>
    cases source .frameOut raised with
    | presented _ how => cases how
    | frameOut => rfl
  case freqUpd =>
    cases source .freqUpd raised with
    | presented operation how => cases how; exact .inr operation
    | cprEstimate => exact .inl rfl
  case numeric =>
    obtain ⟨operation, how⟩ := source .numeric raised
    cases how with
    | agcClips => exact .inl operation
    | mfClips => exact .inr (.inl operation)
    | strClips => exact .inr (.inr operation)
  case cmdErr =>
    obtain ⟨operation, how⟩ := source .cmdErr raised
    cases how with
    | commitRunning => exact .inl operation
    | startInvalid => exact .inr (.inl operation)
    | notACommand w => exact .inr (.inr ⟨w, operation⟩)
  case pilotFail =>
    cases source .pilotFail raised with
    | presented operation how =>
      cases how with
      | pilotsAbsent blk o z => exact .inr ⟨blk, o, z, operation⟩
    | cprPilotsAbsent => exact .inl rfl
  case frameDrop =>
    obtain ⟨operation, how⟩ := source .frameDrop raised
    cases how with
    | dropInSync => exact .inl operation
    | abort => exact .inr operation
  case busErr =>
    obtain ⟨operation, how⟩ := source .busErr raised
    cases how with
    | refusedRead off size => exact .inl ⟨off, size, operation⟩
    | refusedWrite off size w => exact .inr ⟨off, size, w, operation⟩

/-- Settles O53: the drain and CPR steps by their reports, a presented operation by `exec_follows`. -/
theorem pendingAndRunningPersist : Obligations.PendingAndRunningPersist := by
  intro s t a h notReset
  cases a with
  | powerOn => exact absurd rfl notReset
  | drain g =>
    cases h
    have reports := drainStep_reports g s
    exact ⟨fun _ => reports.pending, fun changed => absurd reports.running changed⟩
  | cprStep =>
    cases (agentStep_cprStep s).symm.trans h
    have reports := cprTurn_reports s
    exact ⟨fun _ => reports.pending, fun changed => absurd reports.running changed⟩
  | present p =>
    obtain ⟨i, operation, follows⟩ := agentStep_follows h
    refine ⟨fun notClear => follows.pending ?_, fun changed => ?_⟩
    · rintro w rfl
      exact notClear ⟨w, operation⟩
    · obtain rfl | rfl | rfl := follows.running changed
      · exact .inl operation
      · exact .inr (.inl operation)
      · exact .inr (.inr operation)

end Sys2Proof.Events

namespace Sys2Proof.Reset

open Sys2Proof.Machine Sys2Proof.Laws

/-! ## The registers of an idle block (R37, R49, R802) -/

/-- With no event pending the line is down, whatever is enabled (R802). -/
theorem irqLine_of_nonePending {s : State} (nonePending : s.ctl.irqStatus = 0#10) : irqLine s = false := by
  simp [irqLine, nonePending]

/-- Every field of `STATUS` is 0: the block is stopped and searching, has no configuration and no frequency estimate, and no
frame waits for the consumer (R37). -/
theorem statusWord_of_idle {s : State} (stopped : s.ctl.running = false) (invalid : s.ctl.cfgValid = false)
    (searching : s.pls.state = .searching) (noEstimate : s.cpr.freqValid = false) (noFrame : s.dsc.outbuf = []) :
    statusWord s = 0#32 := by
  have out : outValid s = false := by rw [outValid, noFrame]; rfl
  have input : inReady s = false := by rw [inReady, stopped, Bool.false_and]
  have degraded : strDegraded s = false := by rw [strDegraded, invalid, Bool.false_and]
  rw [statusWord, out, input, noEstimate, degraded, invalid, stopped, searching]
  rfl

/-- What COMMIT derives reads 0 while `CFG_VALID` is 0 (R49). -/
theorem csrValue_derived_of_invalid {s : State} (invalid : s.ctl.cfgValid = false) :
    csrValue s .tapData = 0#32 ∧ csrValue s .tapCount = 0#32 ∧ csrValue s .strKp = 0#32 ∧ csrValue s .strKi = 0#32 := by
  simp [csrValue, tapData, whenValid, invalid]

/-! ## Power-on reset (R900, R901) -/

/-- Settles O54: the configuration is legal by `cfgReset_legal`; `STATUS` and the derived registers read 0 because the reset
state is idle and has no committed configuration, and every other register shows one item of that state. -/
theorem powerOnReset : Obligations.PowerOnReset := by
  refine ⟨fun _ => rfl, irqLine_of_nonePending rfl, Timing.cfgReset_legal, fun r => ?_⟩
  obtain ⟨tapData, tapCount, kp, ki⟩ := csrValue_derived_of_invalid (s := State.reset) rfl
  cases r with
  | status => exact statusWord_of_idle rfl rfl rfl rfl rfl
  | tapData => exact tapData
  | tapCount => exact tapCount
  | strKp => exact kp
  | strKi => exact ki
  | _ => rfl

/-! ## The reset state is safe (R901, R902) -/

/-- The reset state is what RESET_UNITS makes of it, so each unit's invariant there is the one every unit reset establishes. -/
theorem resetUnits_reset : resetUnits State.reset = State.reset := rfl

/-- No configuration is valid and no unit has reported saturation (R37, R803). -/
theorem controlInv_reset : ControlInv State.reset where
  runningValid := nofun
  validClean := nofun
  validLegal := nofun
  validDerived := nofun
  numBits := BitVec.zero_and

/-- Settles O55: the units by their reset lemmas (`resetUnits_reset`), timing recovery's under a legal configuration. -/
theorem resetIsSafe : Obligations.ResetIsSafe where
  mirror := resetUnits_reset ▸ Steps.resetUnits_mirrorInv State.reset
  control := controlInv_reset
  front := resetUnits_reset ▸ Steps.resetUnits_frontInv State.reset
  timing := resetUnits_reset ▸ Timing.resetUnits_timingInv (s := State.reset) Timing.cfgReset_legal
  pls := resetUnits_reset ▸ Sync.resetUnits_plsInv State.reset
  cpr := Carrier.cprInv_reset rfl
  dsc := Emitter.powerOnReset_inv State.reset

end Sys2Proof.Reset
